-- ==== Sys2Proof/Word.lean ====
section
/-! DEFINITION. The value types of the block: the 32-bit InstructionWord it appends (R60), the bytes
a byte-addressed sink holds, and the request's operand fields at the widths R61 gives them. -/

namespace Sys2Proof

/-- One InstructionWord: 32 bits, bit 31 the most significant (R7, R60; `WORD_BITS` of R6). -/
abbrev Word := BitVec 32

/-- One byte of the output stream (R42). -/
abbrev Byte := BitVec 8

/-- A VectorRegister index 0..31; also the scalar SIMD&FP destination `vd` (R20, R61). -/
abbrev VReg := BitVec 5

/-- A PredicateRegister index 0..15 (R20, R61). -/
abbrev PReg := BitVec 4

/-- A ScalarRegister index 0..31, 31 the reserved stack-pointer encoding (R20, R61, R63). Its view bit
is on the request port (`Machine.ScalarViews`) and no operation reads it. -/
abbrev XReg := BitVec 5

/-- An integer field of a request: 32 bits, read as a signed integer (R61, D26): `size`, `dsize`,
`ssize`, `shift`, `imm`, `index`, `start`, `step`, `pattern`, `rot`. -/
abbrev ReqInt := BitVec 32

/-- A governing predicate: 4 bits of index and 2 bits of style (R9, R61). -/
structure GovPred where
  idx : BitVec 4
  style : BitVec 2
  deriving DecidableEq, Repr, Inhabited

end Sys2Proof
end

