-- ==== Sys2Proof/Config.lean ====
section
/-! DEFINITION. What the spec calls the block's parameters (R6) and enumerations: the names of the
requestable operations (`OpCode`, R88), the byte order of a byte-addressed sink (`SinkByteOrder`, R42),
the start of the write cursor (`WPOS0`, R24), the names of the format table (`FormatTable`, R78), the causes (R601), and the values the spec leaves open,
which are opaque: nothing in the model can evaluate them. -/

namespace Sys2Proof

/-- `OpCode` (R6, R61, R88): the closed enumeration of requestable operations, 287 operations and the 11
polymorphic load/store names. Its numbering is OPEN (D2); the model uses the names
(log 12). -/
inductive OpCode where
  -- IntegerArith
  | addUnpred | subUnpred | sqaddUnpred | uqaddUnpred | sqsubUnpred | uqsubUnpred | addPred | subPred
  | subrPred | smaxPred | umaxPred | sminPred | uminPred | sabdPred | uabdPred | orrPred | eorPred | andPred
  | bicPred | andUnpred | orrUnpred | eorUnpred | bicUnpred | cadd | sqcadd | cmla
  -- Compare
  | cmpgeImm | cmpgtImm | cmpltImm | cmpleImm | cmpeqImm | cmpneImm | cmphsImm | cmphiImm | cmploImm
  | cmplsImm | cmphsVec | cmphiVec | cmpgeVec | cmpgtVec | cmpeqVec | cmpneVec
  -- Permute
  | zip1 | zip2 | uzp1 | uzp2 | trn1 | trn2 | tbl | tbx | dupIndexed | extDestructive | extConstructive
  | spliceDestructive | spliceConstructive
  -- MulDivReduction
  | mulPred | smulhPred | umulhPred | sdivPred | udivPred | sdivrPred | udivrPred | saddv | uaddv | smaxv
  | umaxv | sminv | uminv | orv | eorv | andv
  -- Predicate
  | andP | bicP | eorP | selP | orrP | ornP | norP | nandP | andsP | bicsP | eorsP | orrsP | ornsP | norsP
  | nandsP | brkpa | brkpb | brkpas | brkpbs | brka | brkas | brkb | brkbs | brkn | brkns | ptrue | ptrues
  | pfalse | ptest | pfirst | pnext | rdffrUnpred | rdffrPred | rdffrsPred | setffr | wrffr
  -- ContiguousMemory
  | ld1bSs | ld1bSi | ld1swSs | ld1swSi | ld1hSs | ld1hSi | ld1shSs | ld1shSi | ld1wSs | ld1wSi | ld1sbSs
  | ld1sbSi | ld1dSs | ld1dSi | st1bSs | st1bSi | st1hSs | st1hSi | st1wSs | st1wSi | st1dSs | st1dSi
  -- StructuredLoad
  | ld2bSs | ld2bSi | ld2hSs | ld2hSi | ld2wSs | ld2wSi | ld2dSs | ld2dSi | ld3bSs | ld3bSi | ld3hSs | ld3hSi
  | ld3wSs | ld3wSi | ld3dSs | ld3dSi | ld4bSs | ld4bSi | ld4hSs | ld4hSi | ld4wSs | ld4wSi | ld4dSs | ld4dSi
  -- StructuredStore
  | st2bSs | st2bSi | st2hSs | st2hSi | st2wSs | st2wSi | st2dSs | st2dSi | st3bSs | st3bSi | st3hSs | st3hSi
  | st3wSs | st3wSi | st3dSs | st3dSi | st4bSs | st4bSi | st4hSs | st4hSi | st4wSs | st4wSi | st4dSs | st4dSi
  -- Shift
  | asrImmPred | lsrImmPred | lslImmPred | asrdImmPred | sqshlImmPred | uqshlImmPred | srshrImmPred
  | urshrImmPred | sqshluImmPred | asrImmUnpred | lsrImmUnpred | lslImmUnpred | asrVecPred | lsrVecPred
  | lslVecPred | asrrVecPred | lsrrVecPred | lslrVecPred | asrWidePred | lsrWidePred | lslWidePred
  | asrWideUnpred | lsrWideUnpred | lslWideUnpred
  -- WidenNarrow
  | saddlb | saddlt | uaddlb | uaddlt | ssublb | ssublt | usublb | usublt | sabdlb | sabdlt | uabdlb | uabdlt
  | sshllb | sshllt | ushllb | ushllt | addhnb | addhnt | raddhnb | raddhnt | subhnb | subhnt | rsubhnb
  | rsubhnt | sqshrunb | sqshrunt | sqrshrunb | sqrshrunt | shrnb | shrnt | rshrnb | rshrnt | sqshrnb
  | sqshrnt | sqrshrnb | sqrshrnt | uqshrnb | uqshrnt | uqrshrnb | uqrshrnt | ssra | usra | srsra | ursra
  | sri | sli
  -- FloatIndexStack
  | faddUnpred | fsubUnpred | fmulUnpred | ftsmulUnpred | frecpsUnpred | frsqrtsUnpred | faddPred | fsubPred
  | fmulPred | fsubrPred | fmaxnmPred | fminnmPred | fmaxPred | fminPred | fabdPred | fscalePred | fmulxPred
  | fdivrPred | fdivPred | fcmgeVec | fcmgtVec | fcmeqVec | fcmneVec | fcmuoVec | facgeVec | facgtVec | fcvt
  | fcadd | fcmla | indexIi | indexRi | indexIr | indexRr | addvl | addpl | rdvl | ftssel | fexpa
  | movprfxUnpred | movprfxPred
  -- the eleven polymorphic names of R318
  | ld1b | ld1sw | ld1h | ld1sh | ld1w | ld1sb | ld1d | st1b | st1h | st1w | st1d
  deriving DecidableEq, Repr, Inhabited

/-- `SinkByteOrder` (R6, R42): how a byte-addressed sink lays a word out. -/
inductive ByteOrder where
  | little | big
  deriving DecidableEq, Repr

/-- The names of the 59 format packers (`N_FORMATS`, R6, R100 to R158). -/
inductive FormatName where
  | addsubUnpred | addsubPred | minmaxdiffPred | logicalPred | logicalUnpred | intComplexAdd | intComplexMla
  | cmpImmSigned | cmpImmUnsigned | cmpVec | permuteVec | tableLookup | dupIndexed | ext | splice
  | muldivPred | reduction | predLogical | propBreak | partBreak | brkn | ptrue | pfalse | ptest | pfirst
  | pnext | rdffrUnpred | rdffrPred | setffr | wrffr | ld1Ss | ld1Si | st1Ss | st1Si | ldnSs | ldnSi | stnSs
  | stnSi | shiftImmPred | shiftImmUnpred | shiftVecPred | shiftWidePred | shiftWideUnpred | widenLong
  | shiftLeftLong | narrowHigh | shiftRightNarrow | shiftRightAcc | shiftInsert | fpArithUnpred | fpArithPred
  | fpCmpVec | fpCvt | fpComplexAdd | fpComplexMla | indexGen | stackFrame | miscUnpred | movprfxPred
  deriving DecidableEq, Repr, Inhabited

/-- The names of the packers' fields (R78, R100 to R158). -/
inductive FieldName where
  | size | zm | opc | zn | zd | pg | zdn | u | op | rot | zda | imm5 | o2 | ne | pd | imm7 | lt | imm2 | tsz
  | form | imm8h | imm8l | zs | vd | s | pm | pn | o3 | b | m | pdm | pattern | pdn | dtype | rm | rn | zt
  | imm4 | msz | tszh | l | tszl | imm3 | r | t | opc2 | hi5 | lo5 | imm6 | rd
  deriving DecidableEq, Repr, Inhabited

/-- The five sub-causes of `PreconditionViolation`, in the order of R600 and R601. -/
inductive Cause where
  | elementSize | operandRange | aliasing | immediateRange | addressingMode
  deriving DecidableEq, Repr

namespace Config

/-- The default of `SinkByteOrder`: little-endian (R42, D4). -/
def defaultByteOrder : ByteOrder := .little

/-- `WPOS0` of the state after reset: R6 leaves it OPEN, a model argument (DESIGN CHOICE, log 2). -/
def defaultWpos0 : Nat := 0

/-- What `diag.op` holds after the n-th reset: R27 and R630 say unspecified (U6: any value; log 5). -/
opaque freeDiagOp : Nat → OpCode

/-- What `diag.value` holds after the n-th reset: R27 and R630 say unspecified (U6: any value; log 5). -/
opaque freeDiagValue : Nat → BitVec 32

/-- Which name `diag.op` records when a polymorphic request forwards (R167) and a check of the target
operation then fails: the name the caller requested, or the target's. R604 records `q.op`, R167
rewrites `q` to `q'`; the spec does not say which of the two R604 means there (log 6). -/
opaque forwardedDiagIsTarget : Bool

/-- The value of a field to which the format table of the run gives none. R78 calls such a table not well
formed, and the spec says nothing of its words; the default table has no such field (log 19). -/
opaque unplacedValue : FieldName → Nat

end Config

end Sys2Proof
end

