-- ==== Sys2Proof/Machine/Bits.lean ====
section
/-! DEFINITION. Placing a field in a word (R164) and the byte order of a word in a byte-addressed
sink (R42). -/

namespace Sys2Proof.Machine

/-- `value << low` as a 32-bit word (R164). -/
def place {n : Nat} (value : BitVec n) (low : Nat) : Word := value.setWidth 32 <<< low

/-- The byte at address `4k + i` of word `k` (R42): little-endian has bits 7:0 at `4k`, big-endian
bits 31:24. -/
def wordByte (order : ByteOrder) (w : Word) (i : Nat) : Byte :=
  match order with
  | .little => w.extractLsb' (8 * i) 8
  | .big => w.extractLsb' (8 * (3 - i)) 8

/-- The word whose four bytes, in address order, are given (R42). -/
def wordOfBytes (order : ByteOrder) (b0 b1 b2 b3 : Byte) : Word :=
  match order with
  | .little => b3 ++ b2 ++ b1 ++ b0
  | .big => b0 ++ b1 ++ b2 ++ b3

end Sys2Proof.Machine
end

