-- ==== Sys2Proof/Syntax.lean ====
section
/-! DEFINITION. The requests the block takes: one constructor per row of spec/opcode_table.json, its
fields the operands of the row in request order (R61, R81). Register fields have exactly the width of
their index space; sizes, immediates and rotations are signed 32-bit integers that the operation checks
(R61), so a request that violates a precondition is a term of this type. -/

namespace Sys2Proof

/-- One request of one operation (R61, R81, R88). -/
inductive Instr where
  -- 41_int_arith_logical.md
  /-- R202 `add_unpred`: ADD (add vectors, unpredicated). -/
  | addUnpred (size : ReqInt) (zd zn zm : VReg)
  /-- R203 `sub_unpred`: SUB (subtract vectors, unpredicated). -/
  | subUnpred (size : ReqInt) (zd zn zm : VReg)
  /-- R204 `sqadd_unpred`: SQADD (signed saturating add vectors, unpredicated). -/
  | sqaddUnpred (size : ReqInt) (zd zn zm : VReg)
  /-- R205 `uqadd_unpred`: UQADD (unsigned saturating add vectors, unpredicated). -/
  | uqaddUnpred (size : ReqInt) (zd zn zm : VReg)
  /-- R206 `sqsub_unpred`: SQSUB (signed saturating subtract vectors, unpredicated). -/
  | sqsubUnpred (size : ReqInt) (zd zn zm : VReg)
  /-- R207 `uqsub_unpred`: UQSUB (unsigned saturating subtract vectors, unpredicated). -/
  | uqsubUnpred (size : ReqInt) (zd zn zm : VReg)
  /-- R208 `add_pred`: ADD (add vectors, predicated). -/
  | addPred (size : ReqInt) (zd : VReg) (pg : GovPred) (zn zm : VReg)
  /-- R209 `sub_pred`: SUB (subtract vectors, predicated). -/
  | subPred (size : ReqInt) (zd : VReg) (pg : GovPred) (zn zm : VReg)
  /-- R210 `subr_pred`: SUBR (reversed subtract vectors, predicated). -/
  | subrPred (size : ReqInt) (zd : VReg) (pg : GovPred) (zn zm : VReg)
  /-- R211 `smax_pred`: SMAX (signed maximum vectors, predicated). -/
  | smaxPred (size : ReqInt) (zd : VReg) (pg : GovPred) (zn zm : VReg)
  /-- R212 `umax_pred`: UMAX (unsigned maximum vectors, predicated). -/
  | umaxPred (size : ReqInt) (zd : VReg) (pg : GovPred) (zn zm : VReg)
  /-- R213 `smin_pred`: SMIN (signed minimum vectors, predicated). -/
  | sminPred (size : ReqInt) (zd : VReg) (pg : GovPred) (zn zm : VReg)
  /-- R214 `umin_pred`: UMIN (unsigned minimum vectors, predicated). -/
  | uminPred (size : ReqInt) (zd : VReg) (pg : GovPred) (zn zm : VReg)
  /-- R215 `sabd_pred`: SABD (signed absolute difference vectors, predicated). -/
  | sabdPred (size : ReqInt) (zd : VReg) (pg : GovPred) (zn zm : VReg)
  /-- R216 `uabd_pred`: UABD (unsigned absolute difference vectors, predicated). -/
  | uabdPred (size : ReqInt) (zd : VReg) (pg : GovPred) (zn zm : VReg)
  /-- R217 `orr_pred`: ORR (bitwise inclusive OR vectors, predicated). -/
  | orrPred (size : ReqInt) (zd : VReg) (pg : GovPred) (zn zm : VReg)
  /-- R218 `eor_pred`: EOR (bitwise exclusive OR vectors, predicated). -/
  | eorPred (size : ReqInt) (zd : VReg) (pg : GovPred) (zn zm : VReg)
  /-- R219 `and_pred`: AND (bitwise AND vectors, predicated). -/
  | andPred (size : ReqInt) (zd : VReg) (pg : GovPred) (zn zm : VReg)
  /-- R220 `bic_pred`: BIC (bitwise clear vectors, predicated). -/
  | bicPred (size : ReqInt) (zd : VReg) (pg : GovPred) (zn zm : VReg)
  /-- R221 `and_unpred`: AND (bitwise AND vectors, unpredicated). -/
  | andUnpred (zd zn zm : VReg)
  /-- R222 `orr_unpred`: ORR (bitwise inclusive OR vectors, unpredicated). -/
  | orrUnpred (zd zn zm : VReg)
  /-- R223 `eor_unpred`: EOR (bitwise exclusive OR vectors, unpredicated). -/
  | eorUnpred (zd zn zm : VReg)
  /-- R224 `bic_unpred`: BIC (bitwise clear vectors, unpredicated). -/
  | bicUnpred (zd zn zm : VReg)
  /-- R225 `cadd`: CADD (complex integer add with rotate). -/
  | cadd (size : ReqInt) (zd zn zm : VReg) (rot : ReqInt)
  /-- R226 `sqcadd`: SQCADD (saturating complex integer add with rotate). -/
  | sqcadd (size : ReqInt) (zd zn zm : VReg) (rot : ReqInt)
  /-- R227 `cmla`: CMLA (complex integer multiply-add with rotate). -/
  | cmla (size : ReqInt) (zda zn zm : VReg) (rot : ReqInt)
  -- 42_compare.md
  /-- R229 `cmpge_imm`: CMPGE (compare vector signed greater than or equal to signed immediate). -/
  | cmpgeImm (size : ReqInt) (pd : PReg) (pg : GovPred) (zn : VReg) (imm : ReqInt)
  /-- R230 `cmpgt_imm`: CMPGT (compare vector signed greater than to signed immediate). -/
  | cmpgtImm (size : ReqInt) (pd : PReg) (pg : GovPred) (zn : VReg) (imm : ReqInt)
  /-- R231 `cmplt_imm`: CMPLT (compare vector signed less than to signed immediate). -/
  | cmpltImm (size : ReqInt) (pd : PReg) (pg : GovPred) (zn : VReg) (imm : ReqInt)
  /-- R232 `cmple_imm`: CMPLE (compare vector signed less than or equal to signed immediate). -/
  | cmpleImm (size : ReqInt) (pd : PReg) (pg : GovPred) (zn : VReg) (imm : ReqInt)
  /-- R233 `cmpeq_imm`: CMPEQ (compare vector equal to signed immediate). -/
  | cmpeqImm (size : ReqInt) (pd : PReg) (pg : GovPred) (zn : VReg) (imm : ReqInt)
  /-- R234 `cmpne_imm`: CMPNE (compare vector not equal to signed immediate). -/
  | cmpneImm (size : ReqInt) (pd : PReg) (pg : GovPred) (zn : VReg) (imm : ReqInt)
  /-- R235 `cmphs_imm`: CMPHS (compare vector unsigned higher or same to unsigned immediate). -/
  | cmphsImm (size : ReqInt) (pd : PReg) (pg : GovPred) (zn : VReg) (imm : ReqInt)
  /-- R236 `cmphi_imm`: CMPHI (compare vector unsigned higher to unsigned immediate). -/
  | cmphiImm (size : ReqInt) (pd : PReg) (pg : GovPred) (zn : VReg) (imm : ReqInt)
  /-- R237 `cmplo_imm`: CMPLO (compare vector unsigned lower to unsigned immediate). -/
  | cmploImm (size : ReqInt) (pd : PReg) (pg : GovPred) (zn : VReg) (imm : ReqInt)
  /-- R238 `cmpls_imm`: CMPLS (compare vector unsigned lower or same to unsigned immediate). -/
  | cmplsImm (size : ReqInt) (pd : PReg) (pg : GovPred) (zn : VReg) (imm : ReqInt)
  /-- R239 `cmphs_vec`: CMPHS (compare vectors unsigned higher or same). -/
  | cmphsVec (size : ReqInt) (pd : PReg) (pg : GovPred) (zn zm : VReg)
  /-- R240 `cmphi_vec`: CMPHI (compare vectors unsigned higher). -/
  | cmphiVec (size : ReqInt) (pd : PReg) (pg : GovPred) (zn zm : VReg)
  /-- R241 `cmpge_vec`: CMPGE (compare vectors signed greater than or equal). -/
  | cmpgeVec (size : ReqInt) (pd : PReg) (pg : GovPred) (zn zm : VReg)
  /-- R242 `cmpgt_vec`: CMPGT (compare vectors signed greater than). -/
  | cmpgtVec (size : ReqInt) (pd : PReg) (pg : GovPred) (zn zm : VReg)
  /-- R243 `cmpeq_vec`: CMPEQ (compare vectors equal). -/
  | cmpeqVec (size : ReqInt) (pd : PReg) (pg : GovPred) (zn zm : VReg)
  /-- R244 `cmpne_vec`: CMPNE (compare vectors not equal). -/
  | cmpneVec (size : ReqInt) (pd : PReg) (pg : GovPred) (zn zm : VReg)
  -- 43_permute_table_move.md
  /-- R248 `zip1`: ZIP1 (interleave elements from the low halves of two vectors). -/
  | zip1 (size : ReqInt) (zd zn zm : VReg)
  /-- R249 `zip2`: ZIP2 (interleave elements from the high halves of two vectors). -/
  | zip2 (size : ReqInt) (zd zn zm : VReg)
  /-- R250 `uzp1`: UZP1 (concatenate even elements of two vectors). -/
  | uzp1 (size : ReqInt) (zd zn zm : VReg)
  /-- R251 `uzp2`: UZP2 (concatenate odd elements of two vectors). -/
  | uzp2 (size : ReqInt) (zd zn zm : VReg)
  /-- R252 `trn1`: TRN1 (interleave even elements of two vectors). -/
  | trn1 (size : ReqInt) (zd zn zm : VReg)
  /-- R253 `trn2`: TRN2 (interleave odd elements of two vectors). -/
  | trn2 (size : ReqInt) (zd zn zm : VReg)
  /-- R254 `tbl`: TBL (table lookup in one vector). -/
  | tbl (size : ReqInt) (zd zn zm : VReg)
  /-- R255 `tbx`: TBX (table lookup in one vector, out-of-range indices leave the destination element unchanged). -/
  | tbx (size : ReqInt) (zd zn zm : VReg)
  /-- R256 `dup_indexed`: DUP (duplicate one indexed element of a vector to every element). -/
  | dupIndexed (size : ReqInt) (zd zn : VReg) (index : ReqInt)
  /-- R257 `ext_destructive`: EXT (extract a vector from a pair of vectors at a byte offset, destructive form). -/
  | extDestructive (zd zn zm : VReg) (imm : ReqInt)
  /-- R258 `ext_constructive`: EXT (extract a vector from a pair of consecutive vectors at a byte offset, constructive form). -/
  | extConstructive (zd zn zm : VReg) (imm : ReqInt)
  /-- R259 `splice_destructive`: SPLICE (splice two vectors under predicate control, destructive form). -/
  | spliceDestructive (size : ReqInt) (zd : VReg) (pv : GovPred) (zn zm : VReg)
  /-- R260 `splice_constructive`: SPLICE (splice two consecutive vectors under predicate control, constructive form). -/
  | spliceConstructive (size : ReqInt) (zd : VReg) (pv : GovPred) (zn zm : VReg)
  -- 44_muldiv_reduction.md
  /-- R262 `mul_pred`: MUL (multiply vectors, predicated). -/
  | mulPred (size : ReqInt) (zd : VReg) (pg : GovPred) (zn zm : VReg)
  /-- R263 `smulh_pred`: SMULH (signed multiply returning high half vectors, predicated). -/
  | smulhPred (size : ReqInt) (zd : VReg) (pg : GovPred) (zn zm : VReg)
  /-- R264 `umulh_pred`: UMULH (unsigned multiply returning high half vectors, predicated). -/
  | umulhPred (size : ReqInt) (zd : VReg) (pg : GovPred) (zn zm : VReg)
  /-- R265 `sdiv_pred`: SDIV (signed divide vectors, predicated). -/
  | sdivPred (size : ReqInt) (zd : VReg) (pg : GovPred) (zn zm : VReg)
  /-- R266 `udiv_pred`: UDIV (unsigned divide vectors, predicated). -/
  | udivPred (size : ReqInt) (zd : VReg) (pg : GovPred) (zn zm : VReg)
  /-- R267 `sdivr_pred`: SDIVR (signed reversed divide vectors, predicated). -/
  | sdivrPred (size : ReqInt) (zd : VReg) (pg : GovPred) (zn zm : VReg)
  /-- R268 `udivr_pred`: UDIVR (unsigned reversed divide vectors, predicated). -/
  | udivrPred (size : ReqInt) (zd : VReg) (pg : GovPred) (zn zm : VReg)
  /-- R269 `saddv`: SADDV (signed add reduction to scalar). -/
  | saddv (size : ReqInt) (vd : VReg) (pg : GovPred) (zn : VReg)
  /-- R270 `uaddv`: UADDV (unsigned add reduction to scalar). -/
  | uaddv (size : ReqInt) (vd : VReg) (pg : GovPred) (zn : VReg)
  /-- R271 `smaxv`: SMAXV (signed maximum reduction to scalar). -/
  | smaxv (size : ReqInt) (vd : VReg) (pg : GovPred) (zn : VReg)
  /-- R272 `umaxv`: UMAXV (unsigned maximum reduction to scalar). -/
  | umaxv (size : ReqInt) (vd : VReg) (pg : GovPred) (zn : VReg)
  /-- R273 `sminv`: SMINV (signed minimum reduction to scalar). -/
  | sminv (size : ReqInt) (vd : VReg) (pg : GovPred) (zn : VReg)
  /-- R274 `uminv`: UMINV (unsigned minimum reduction to scalar). -/
  | uminv (size : ReqInt) (vd : VReg) (pg : GovPred) (zn : VReg)
  /-- R275 `orv`: ORV (bitwise inclusive OR reduction to scalar). -/
  | orv (size : ReqInt) (vd : VReg) (pg : GovPred) (zn : VReg)
  /-- R276 `eorv`: EORV (bitwise exclusive OR reduction to scalar). -/
  | eorv (size : ReqInt) (vd : VReg) (pg : GovPred) (zn : VReg)
  /-- R277 `andv`: ANDV (bitwise AND reduction to scalar). -/
  | andv (size : ReqInt) (vd : VReg) (pg : GovPred) (zn : VReg)
  -- 45_predicate.md
  /-- R280 `and_p`: AND (bitwise AND predicates). -/
  | andP (pd : PReg) (pg : GovPred) (pn pm : PReg)
  /-- R281 `bic_p`: BIC (bitwise clear predicates). -/
  | bicP (pd : PReg) (pg : GovPred) (pn pm : PReg)
  /-- R282 `eor_p`: EOR (bitwise exclusive OR predicates). -/
  | eorP (pd : PReg) (pg : GovPred) (pn pm : PReg)
  /-- R283 `sel_p`: SEL (conditionally select predicates). -/
  | selP (pd : PReg) (pg : GovPred) (pn pm : PReg)
  /-- R284 `orr_p`: ORR (bitwise inclusive OR predicates). -/
  | orrP (pd : PReg) (pg : GovPred) (pn pm : PReg)
  /-- R285 `orn_p`: ORN (bitwise inclusive OR inverted predicates). -/
  | ornP (pd : PReg) (pg : GovPred) (pn pm : PReg)
  /-- R286 `nor_p`: NOR (bitwise NOR predicates). -/
  | norP (pd : PReg) (pg : GovPred) (pn pm : PReg)
  /-- R287 `nand_p`: NAND (bitwise NAND predicates). -/
  | nandP (pd : PReg) (pg : GovPred) (pn pm : PReg)
  /-- R288 `ands_p`: ANDS (bitwise AND predicates, setting the condition flags). -/
  | andsP (pd : PReg) (pg : GovPred) (pn pm : PReg)
  /-- R289 `bics_p`: BICS (bitwise clear predicates, setting the condition flags). -/
  | bicsP (pd : PReg) (pg : GovPred) (pn pm : PReg)
  /-- R290 `eors_p`: EORS (bitwise exclusive OR predicates, setting the condition flags). -/
  | eorsP (pd : PReg) (pg : GovPred) (pn pm : PReg)
  /-- R291 `orrs_p`: ORRS (bitwise inclusive OR predicates, setting the condition flags). -/
  | orrsP (pd : PReg) (pg : GovPred) (pn pm : PReg)
  /-- R292 `orns_p`: ORNS (bitwise inclusive OR inverted predicates, setting the condition flags). -/
  | ornsP (pd : PReg) (pg : GovPred) (pn pm : PReg)
  /-- R293 `nors_p`: NORS (bitwise NOR predicates, setting the condition flags). -/
  | norsP (pd : PReg) (pg : GovPred) (pn pm : PReg)
  /-- R294 `nands_p`: NANDS (bitwise NAND predicates, setting the condition flags). -/
  | nandsP (pd : PReg) (pg : GovPred) (pn pm : PReg)
  /-- R295 `brkpa`: BRKPA (propagate break from previous partition, break after first true). -/
  | brkpa (pd : PReg) (pg : GovPred) (pn pm : PReg)
  /-- R296 `brkpb`: BRKPB (propagate break from previous partition, break before first true). -/
  | brkpb (pd : PReg) (pg : GovPred) (pn pm : PReg)
  /-- R297 `brkpas`: BRKPAS (propagate break from previous partition, break after first true, setting the condition flags). -/
  | brkpas (pd : PReg) (pg : GovPred) (pn pm : PReg)
  /-- R298 `brkpbs`: BRKPBS (propagate break from previous partition, break before first true, setting the condition flags). -/
  | brkpbs (pd : PReg) (pg : GovPred) (pn pm : PReg)
  /-- R299 `brka`: BRKA (break after first true condition). -/
  | brka (pd : PReg) (pg : GovPred) (pn : PReg)
  /-- R300 `brkas`: BRKAS (break after first true condition, setting the condition flags). -/
  | brkas (pd : PReg) (pg : GovPred) (pn : PReg)
  /-- R301 `brkb`: BRKB (break before first true condition). -/
  | brkb (pd : PReg) (pg : GovPred) (pn : PReg)
  /-- R302 `brkbs`: BRKBS (break before first true condition, setting the condition flags). -/
  | brkbs (pd : PReg) (pg : GovPred) (pn : PReg)
  /-- R303 `brkn`: BRKN (propagate break to next partition). -/
  | brkn (pd : PReg) (pg : GovPred) (pn pm : PReg)
  /-- R304 `brkns`: BRKNS (propagate break to next partition, setting the condition flags). -/
  | brkns (pd : PReg) (pg : GovPred) (pn pm : PReg)
  /-- R305 `ptrue`: PTRUE (initialise predicate from named constraint). -/
  | ptrue (size : ReqInt) (pd : PReg) (pattern : ReqInt)
  /-- R306 `ptrues`: PTRUES (initialise predicate from named constraint, setting the condition flags). -/
  | ptrues (size : ReqInt) (pd : PReg) (pattern : ReqInt)
  /-- R307 `pfalse`: PFALSE (set all predicate elements to false). -/
  | pfalse (pd : PReg)
  /-- R308 `ptest`: PTEST (set condition flags for predicate). -/
  | ptest (pg : GovPred) (pn : PReg)
  /-- R309 `pfirst`: PFIRST (set the first active predicate element to true). -/
  | pfirst (pd : PReg) (pg : GovPred) (pn : PReg)
  /-- R310 `pnext`: PNEXT (find next active predicate). -/
  | pnext (size : ReqInt) (pd : PReg) (pg : GovPred) (pn : PReg)
  /-- R311 `rdffr_unpred`: RDFFR (read the first-fault register, unpredicated). -/
  | rdffrUnpred (pd : PReg)
  /-- R312 `rdffr_pred`: RDFFR (read the first-fault register, predicated). -/
  | rdffrPred (pd : PReg) (pg : GovPred)
  /-- R313 `rdffrs_pred`: RDFFRS (read the first-fault register, predicated, setting the condition flags). -/
  | rdffrsPred (pd : PReg) (pg : GovPred)
  /-- R314 `setffr`: SETFFR (initialise the first-fault register to all true). -/
  | setffr
  /-- R315 `wrffr`: WRFFR (write the first-fault register). -/
  | wrffr (pn : PReg)
  -- 46_loadstore_contiguous.md
  /-- R319 `ld1b_ss`: LD1B (contiguous load of unsigned bytes to elements of size `size`, scalar base plus scalar index). -/
  | ld1bSs (size : ReqInt) (zt : VReg) (pg : GovPred) (rn rm : XReg)
  /-- R320 `ld1b_si`: LD1B (contiguous load of unsigned bytes to elements of size `size`, scalar base plus immediate (in vector lengths)). -/
  | ld1bSi (size : ReqInt) (zt : VReg) (pg : GovPred) (rn : XReg) (imm : ReqInt)
  /-- R321 `ld1sw_ss`: LD1SW (contiguous load of signed words to elements of size `size`, scalar base plus scalar index). -/
  | ld1swSs (size : ReqInt) (zt : VReg) (pg : GovPred) (rn rm : XReg)
  /-- R322 `ld1sw_si`: LD1SW (contiguous load of signed words to elements of size `size`, scalar base plus immediate (in vector lengths)). -/
  | ld1swSi (size : ReqInt) (zt : VReg) (pg : GovPred) (rn : XReg) (imm : ReqInt)
  /-- R323 `ld1h_ss`: LD1H (contiguous load of unsigned halfwords to elements of size `size`, scalar base plus scalar index). -/
  | ld1hSs (size : ReqInt) (zt : VReg) (pg : GovPred) (rn rm : XReg)
  /-- R324 `ld1h_si`: LD1H (contiguous load of unsigned halfwords to elements of size `size`, scalar base plus immediate (in vector lengths)). -/
  | ld1hSi (size : ReqInt) (zt : VReg) (pg : GovPred) (rn : XReg) (imm : ReqInt)
  /-- R325 `ld1sh_ss`: LD1SH (contiguous load of signed halfwords to elements of size `size`, scalar base plus scalar index). -/
  | ld1shSs (size : ReqInt) (zt : VReg) (pg : GovPred) (rn rm : XReg)
  /-- R326 `ld1sh_si`: LD1SH (contiguous load of signed halfwords to elements of size `size`, scalar base plus immediate (in vector lengths)). -/
  | ld1shSi (size : ReqInt) (zt : VReg) (pg : GovPred) (rn : XReg) (imm : ReqInt)
  /-- R327 `ld1w_ss`: LD1W (contiguous load of unsigned words to elements of size `size`, scalar base plus scalar index). -/
  | ld1wSs (size : ReqInt) (zt : VReg) (pg : GovPred) (rn rm : XReg)
  /-- R328 `ld1w_si`: LD1W (contiguous load of unsigned words to elements of size `size`, scalar base plus immediate (in vector lengths)). -/
  | ld1wSi (size : ReqInt) (zt : VReg) (pg : GovPred) (rn : XReg) (imm : ReqInt)
  /-- R329 `ld1sb_ss`: LD1SB (contiguous load of signed bytes to elements of size `size`, scalar base plus scalar index). -/
  | ld1sbSs (size : ReqInt) (zt : VReg) (pg : GovPred) (rn rm : XReg)
  /-- R330 `ld1sb_si`: LD1SB (contiguous load of signed bytes to elements of size `size`, scalar base plus immediate (in vector lengths)). -/
  | ld1sbSi (size : ReqInt) (zt : VReg) (pg : GovPred) (rn : XReg) (imm : ReqInt)
  /-- R331 `ld1d_ss`: LD1D (contiguous load of doublewords to elements of size `size`, scalar base plus scalar index). -/
  | ld1dSs (size : ReqInt) (zt : VReg) (pg : GovPred) (rn rm : XReg)
  /-- R332 `ld1d_si`: LD1D (contiguous load of doublewords to elements of size `size`, scalar base plus immediate (in vector lengths)). -/
  | ld1dSi (size : ReqInt) (zt : VReg) (pg : GovPred) (rn : XReg) (imm : ReqInt)
  /-- R333 `st1b_ss`: ST1B (contiguous store of bytes from elements of size `size`, scalar base plus scalar index). -/
  | st1bSs (size : ReqInt) (zt : VReg) (pg : GovPred) (rn rm : XReg)
  /-- R334 `st1b_si`: ST1B (contiguous store of bytes from elements of size `size`, scalar base plus immediate (in vector lengths)). -/
  | st1bSi (size : ReqInt) (zt : VReg) (pg : GovPred) (rn : XReg) (imm : ReqInt)
  /-- R335 `st1h_ss`: ST1H (contiguous store of halfwords from elements of size `size`, scalar base plus scalar index). -/
  | st1hSs (size : ReqInt) (zt : VReg) (pg : GovPred) (rn rm : XReg)
  /-- R336 `st1h_si`: ST1H (contiguous store of halfwords from elements of size `size`, scalar base plus immediate (in vector lengths)). -/
  | st1hSi (size : ReqInt) (zt : VReg) (pg : GovPred) (rn : XReg) (imm : ReqInt)
  /-- R337 `st1w_ss`: ST1W (contiguous store of words from elements of size `size`, scalar base plus scalar index). -/
  | st1wSs (size : ReqInt) (zt : VReg) (pg : GovPred) (rn rm : XReg)
  /-- R338 `st1w_si`: ST1W (contiguous store of words from elements of size `size`, scalar base plus immediate (in vector lengths)). -/
  | st1wSi (size : ReqInt) (zt : VReg) (pg : GovPred) (rn : XReg) (imm : ReqInt)
  /-- R339 `st1d_ss`: ST1D (contiguous store of doublewords from elements of size `size`, scalar base plus scalar index). -/
  | st1dSs (size : ReqInt) (zt : VReg) (pg : GovPred) (rn rm : XReg)
  /-- R340 `st1d_si`: ST1D (contiguous store of doublewords from elements of size `size`, scalar base plus immediate (in vector lengths)). -/
  | st1dSi (size : ReqInt) (zt : VReg) (pg : GovPred) (rn : XReg) (imm : ReqInt)
  -- 46_loadstore_structured_ld.md
  /-- R343 `ld2b_ss`: LD2B (load 2-element structures of bytes to 2 vectors, scalar base plus scalar index). -/
  | ld2bSs (zt1 zt2 : VReg) (pg : GovPred) (rn rm : XReg)
  /-- R344 `ld2b_si`: LD2B (load 2-element structures of bytes to 2 vectors, scalar base plus immediate (in vector lengths)). -/
  | ld2bSi (zt1 zt2 : VReg) (pg : GovPred) (rn : XReg) (imm : ReqInt)
  /-- R345 `ld2h_ss`: LD2H (load 2-element structures of halfwords to 2 vectors, scalar base plus scalar index). -/
  | ld2hSs (zt1 zt2 : VReg) (pg : GovPred) (rn rm : XReg)
  /-- R346 `ld2h_si`: LD2H (load 2-element structures of halfwords to 2 vectors, scalar base plus immediate (in vector lengths)). -/
  | ld2hSi (zt1 zt2 : VReg) (pg : GovPred) (rn : XReg) (imm : ReqInt)
  /-- R347 `ld2w_ss`: LD2W (load 2-element structures of words to 2 vectors, scalar base plus scalar index). -/
  | ld2wSs (zt1 zt2 : VReg) (pg : GovPred) (rn rm : XReg)
  /-- R348 `ld2w_si`: LD2W (load 2-element structures of words to 2 vectors, scalar base plus immediate (in vector lengths)). -/
  | ld2wSi (zt1 zt2 : VReg) (pg : GovPred) (rn : XReg) (imm : ReqInt)
  /-- R349 `ld2d_ss`: LD2D (load 2-element structures of doublewords to 2 vectors, scalar base plus scalar index). -/
  | ld2dSs (zt1 zt2 : VReg) (pg : GovPred) (rn rm : XReg)
  /-- R350 `ld2d_si`: LD2D (load 2-element structures of doublewords to 2 vectors, scalar base plus immediate (in vector lengths)). -/
  | ld2dSi (zt1 zt2 : VReg) (pg : GovPred) (rn : XReg) (imm : ReqInt)
  /-- R351 `ld3b_ss`: LD3B (load 3-element structures of bytes to 3 vectors, scalar base plus scalar index). -/
  | ld3bSs (zt1 zt2 zt3 : VReg) (pg : GovPred) (rn rm : XReg)
  /-- R352 `ld3b_si`: LD3B (load 3-element structures of bytes to 3 vectors, scalar base plus immediate (in vector lengths)). -/
  | ld3bSi (zt1 zt2 zt3 : VReg) (pg : GovPred) (rn : XReg) (imm : ReqInt)
  /-- R353 `ld3h_ss`: LD3H (load 3-element structures of halfwords to 3 vectors, scalar base plus scalar index). -/
  | ld3hSs (zt1 zt2 zt3 : VReg) (pg : GovPred) (rn rm : XReg)
  /-- R354 `ld3h_si`: LD3H (load 3-element structures of halfwords to 3 vectors, scalar base plus immediate (in vector lengths)). -/
  | ld3hSi (zt1 zt2 zt3 : VReg) (pg : GovPred) (rn : XReg) (imm : ReqInt)
  /-- R355 `ld3w_ss`: LD3W (load 3-element structures of words to 3 vectors, scalar base plus scalar index). -/
  | ld3wSs (zt1 zt2 zt3 : VReg) (pg : GovPred) (rn rm : XReg)
  /-- R356 `ld3w_si`: LD3W (load 3-element structures of words to 3 vectors, scalar base plus immediate (in vector lengths)). -/
  | ld3wSi (zt1 zt2 zt3 : VReg) (pg : GovPred) (rn : XReg) (imm : ReqInt)
  /-- R357 `ld3d_ss`: LD3D (load 3-element structures of doublewords to 3 vectors, scalar base plus scalar index). -/
  | ld3dSs (zt1 zt2 zt3 : VReg) (pg : GovPred) (rn rm : XReg)
  /-- R358 `ld3d_si`: LD3D (load 3-element structures of doublewords to 3 vectors, scalar base plus immediate (in vector lengths)). -/
  | ld3dSi (zt1 zt2 zt3 : VReg) (pg : GovPred) (rn : XReg) (imm : ReqInt)
  /-- R359 `ld4b_ss`: LD4B (load 4-element structures of bytes to 4 vectors, scalar base plus scalar index). -/
  | ld4bSs (zt1 zt2 zt3 zt4 : VReg) (pg : GovPred) (rn rm : XReg)
  /-- R360 `ld4b_si`: LD4B (load 4-element structures of bytes to 4 vectors, scalar base plus immediate (in vector lengths)). -/
  | ld4bSi (zt1 zt2 zt3 zt4 : VReg) (pg : GovPred) (rn : XReg) (imm : ReqInt)
  /-- R361 `ld4h_ss`: LD4H (load 4-element structures of halfwords to 4 vectors, scalar base plus scalar index). -/
  | ld4hSs (zt1 zt2 zt3 zt4 : VReg) (pg : GovPred) (rn rm : XReg)
  /-- R362 `ld4h_si`: LD4H (load 4-element structures of halfwords to 4 vectors, scalar base plus immediate (in vector lengths)). -/
  | ld4hSi (zt1 zt2 zt3 zt4 : VReg) (pg : GovPred) (rn : XReg) (imm : ReqInt)
  /-- R363 `ld4w_ss`: LD4W (load 4-element structures of words to 4 vectors, scalar base plus scalar index). -/
  | ld4wSs (zt1 zt2 zt3 zt4 : VReg) (pg : GovPred) (rn rm : XReg)
  /-- R364 `ld4w_si`: LD4W (load 4-element structures of words to 4 vectors, scalar base plus immediate (in vector lengths)). -/
  | ld4wSi (zt1 zt2 zt3 zt4 : VReg) (pg : GovPred) (rn : XReg) (imm : ReqInt)
  /-- R365 `ld4d_ss`: LD4D (load 4-element structures of doublewords to 4 vectors, scalar base plus scalar index). -/
  | ld4dSs (zt1 zt2 zt3 zt4 : VReg) (pg : GovPred) (rn rm : XReg)
  /-- R366 `ld4d_si`: LD4D (load 4-element structures of doublewords to 4 vectors, scalar base plus immediate (in vector lengths)). -/
  | ld4dSi (zt1 zt2 zt3 zt4 : VReg) (pg : GovPred) (rn : XReg) (imm : ReqInt)
  -- 46_loadstore_structured_st.md
  /-- R368 `st2b_ss`: ST2B (store 2-element structures of bytes from 2 vectors, scalar base plus scalar index). -/
  | st2bSs (zt1 zt2 : VReg) (pg : GovPred) (rn rm : XReg)
  /-- R369 `st2b_si`: ST2B (store 2-element structures of bytes from 2 vectors, scalar base plus immediate (in vector lengths)). -/
  | st2bSi (zt1 zt2 : VReg) (pg : GovPred) (rn : XReg) (imm : ReqInt)
  /-- R370 `st2h_ss`: ST2H (store 2-element structures of halfwords from 2 vectors, scalar base plus scalar index). -/
  | st2hSs (zt1 zt2 : VReg) (pg : GovPred) (rn rm : XReg)
  /-- R371 `st2h_si`: ST2H (store 2-element structures of halfwords from 2 vectors, scalar base plus immediate (in vector lengths)). -/
  | st2hSi (zt1 zt2 : VReg) (pg : GovPred) (rn : XReg) (imm : ReqInt)
  /-- R372 `st2w_ss`: ST2W (store 2-element structures of words from 2 vectors, scalar base plus scalar index). -/
  | st2wSs (zt1 zt2 : VReg) (pg : GovPred) (rn rm : XReg)
  /-- R373 `st2w_si`: ST2W (store 2-element structures of words from 2 vectors, scalar base plus immediate (in vector lengths)). -/
  | st2wSi (zt1 zt2 : VReg) (pg : GovPred) (rn : XReg) (imm : ReqInt)
  /-- R374 `st2d_ss`: ST2D (store 2-element structures of doublewords from 2 vectors, scalar base plus scalar index). -/
  | st2dSs (zt1 zt2 : VReg) (pg : GovPred) (rn rm : XReg)
  /-- R375 `st2d_si`: ST2D (store 2-element structures of doublewords from 2 vectors, scalar base plus immediate (in vector lengths)). -/
  | st2dSi (zt1 zt2 : VReg) (pg : GovPred) (rn : XReg) (imm : ReqInt)
  /-- R376 `st3b_ss`: ST3B (store 3-element structures of bytes from 3 vectors, scalar base plus scalar index). -/
  | st3bSs (zt1 zt2 zt3 : VReg) (pg : GovPred) (rn rm : XReg)
  /-- R377 `st3b_si`: ST3B (store 3-element structures of bytes from 3 vectors, scalar base plus immediate (in vector lengths)). -/
  | st3bSi (zt1 zt2 zt3 : VReg) (pg : GovPred) (rn : XReg) (imm : ReqInt)
  /-- R378 `st3h_ss`: ST3H (store 3-element structures of halfwords from 3 vectors, scalar base plus scalar index). -/
  | st3hSs (zt1 zt2 zt3 : VReg) (pg : GovPred) (rn rm : XReg)
  /-- R379 `st3h_si`: ST3H (store 3-element structures of halfwords from 3 vectors, scalar base plus immediate (in vector lengths)). -/
  | st3hSi (zt1 zt2 zt3 : VReg) (pg : GovPred) (rn : XReg) (imm : ReqInt)
  /-- R380 `st3w_ss`: ST3W (store 3-element structures of words from 3 vectors, scalar base plus scalar index). -/
  | st3wSs (zt1 zt2 zt3 : VReg) (pg : GovPred) (rn rm : XReg)
  /-- R381 `st3w_si`: ST3W (store 3-element structures of words from 3 vectors, scalar base plus immediate (in vector lengths)). -/
  | st3wSi (zt1 zt2 zt3 : VReg) (pg : GovPred) (rn : XReg) (imm : ReqInt)
  /-- R382 `st3d_ss`: ST3D (store 3-element structures of doublewords from 3 vectors, scalar base plus scalar index). -/
  | st3dSs (zt1 zt2 zt3 : VReg) (pg : GovPred) (rn rm : XReg)
  /-- R383 `st3d_si`: ST3D (store 3-element structures of doublewords from 3 vectors, scalar base plus immediate (in vector lengths)). -/
  | st3dSi (zt1 zt2 zt3 : VReg) (pg : GovPred) (rn : XReg) (imm : ReqInt)
  /-- R384 `st4b_ss`: ST4B (store 4-element structures of bytes from 4 vectors, scalar base plus scalar index). -/
  | st4bSs (zt1 zt2 zt3 zt4 : VReg) (pg : GovPred) (rn rm : XReg)
  /-- R385 `st4b_si`: ST4B (store 4-element structures of bytes from 4 vectors, scalar base plus immediate (in vector lengths)). -/
  | st4bSi (zt1 zt2 zt3 zt4 : VReg) (pg : GovPred) (rn : XReg) (imm : ReqInt)
  /-- R386 `st4h_ss`: ST4H (store 4-element structures of halfwords from 4 vectors, scalar base plus scalar index). -/
  | st4hSs (zt1 zt2 zt3 zt4 : VReg) (pg : GovPred) (rn rm : XReg)
  /-- R387 `st4h_si`: ST4H (store 4-element structures of halfwords from 4 vectors, scalar base plus immediate (in vector lengths)). -/
  | st4hSi (zt1 zt2 zt3 zt4 : VReg) (pg : GovPred) (rn : XReg) (imm : ReqInt)
  /-- R388 `st4w_ss`: ST4W (store 4-element structures of words from 4 vectors, scalar base plus scalar index). -/
  | st4wSs (zt1 zt2 zt3 zt4 : VReg) (pg : GovPred) (rn rm : XReg)
  /-- R389 `st4w_si`: ST4W (store 4-element structures of words from 4 vectors, scalar base plus immediate (in vector lengths)). -/
  | st4wSi (zt1 zt2 zt3 zt4 : VReg) (pg : GovPred) (rn : XReg) (imm : ReqInt)
  /-- R390 `st4d_ss`: ST4D (store 4-element structures of doublewords from 4 vectors, scalar base plus scalar index). -/
  | st4dSs (zt1 zt2 zt3 zt4 : VReg) (pg : GovPred) (rn rm : XReg)
  /-- R391 `st4d_si`: ST4D (store 4-element structures of doublewords from 4 vectors, scalar base plus immediate (in vector lengths)). -/
  | st4dSi (zt1 zt2 zt3 zt4 : VReg) (pg : GovPred) (rn : XReg) (imm : ReqInt)
  -- 47_shift.md
  /-- R394 `asr_imm_pred`: ASR (arithmetic shift right by immediate, predicated). -/
  | asrImmPred (size : ReqInt) (zd : VReg) (pg : GovPred) (zn : VReg) (shift : ReqInt)
  /-- R395 `lsr_imm_pred`: LSR (logical shift right by immediate, predicated). -/
  | lsrImmPred (size : ReqInt) (zd : VReg) (pg : GovPred) (zn : VReg) (shift : ReqInt)
  /-- R396 `lsl_imm_pred`: LSL (logical shift left by immediate, predicated). -/
  | lslImmPred (size : ReqInt) (zd : VReg) (pg : GovPred) (zn : VReg) (shift : ReqInt)
  /-- R397 `asrd_imm_pred`: ASRD (arithmetic shift right for divide by immediate, predicated). -/
  | asrdImmPred (size : ReqInt) (zd : VReg) (pg : GovPred) (zn : VReg) (shift : ReqInt)
  /-- R398 `sqshl_imm_pred`: SQSHL (signed saturating shift left by immediate, predicated). -/
  | sqshlImmPred (size : ReqInt) (zd : VReg) (pg : GovPred) (zn : VReg) (shift : ReqInt)
  /-- R399 `uqshl_imm_pred`: UQSHL (unsigned saturating shift left by immediate, predicated). -/
  | uqshlImmPred (size : ReqInt) (zd : VReg) (pg : GovPred) (zn : VReg) (shift : ReqInt)
  /-- R400 `srshr_imm_pred`: SRSHR (signed rounding shift right by immediate, predicated). -/
  | srshrImmPred (size : ReqInt) (zd : VReg) (pg : GovPred) (zn : VReg) (shift : ReqInt)
  /-- R401 `urshr_imm_pred`: URSHR (unsigned rounding shift right by immediate, predicated). -/
  | urshrImmPred (size : ReqInt) (zd : VReg) (pg : GovPred) (zn : VReg) (shift : ReqInt)
  /-- R402 `sqshlu_imm_pred`: SQSHLU (signed saturating shift left unsigned by immediate, predicated). -/
  | sqshluImmPred (size : ReqInt) (zd : VReg) (pg : GovPred) (zn : VReg) (shift : ReqInt)
  /-- R403 `asr_imm_unpred`: ASR (arithmetic shift right by immediate, unpredicated). -/
  | asrImmUnpred (size : ReqInt) (zd zn : VReg) (shift : ReqInt)
  /-- R404 `lsr_imm_unpred`: LSR (logical shift right by immediate, unpredicated). -/
  | lsrImmUnpred (size : ReqInt) (zd zn : VReg) (shift : ReqInt)
  /-- R405 `lsl_imm_unpred`: LSL (logical shift left by immediate, unpredicated). -/
  | lslImmUnpred (size : ReqInt) (zd zn : VReg) (shift : ReqInt)
  /-- R406 `asr_vec_pred`: ASR (arithmetic shift right by vector, predicated). -/
  | asrVecPred (size : ReqInt) (zd : VReg) (pg : GovPred) (zn zm : VReg)
  /-- R407 `lsr_vec_pred`: LSR (logical shift right by vector, predicated). -/
  | lsrVecPred (size : ReqInt) (zd : VReg) (pg : GovPred) (zn zm : VReg)
  /-- R408 `lsl_vec_pred`: LSL (logical shift left by vector, predicated). -/
  | lslVecPred (size : ReqInt) (zd : VReg) (pg : GovPred) (zn zm : VReg)
  /-- R409 `asrr_vec_pred`: ASRR (reversed arithmetic shift right by vector, predicated). -/
  | asrrVecPred (size : ReqInt) (zd : VReg) (pg : GovPred) (zn zm : VReg)
  /-- R410 `lsrr_vec_pred`: LSRR (reversed logical shift right by vector, predicated). -/
  | lsrrVecPred (size : ReqInt) (zd : VReg) (pg : GovPred) (zn zm : VReg)
  /-- R411 `lslr_vec_pred`: LSLR (reversed logical shift left by vector, predicated). -/
  | lslrVecPred (size : ReqInt) (zd : VReg) (pg : GovPred) (zn zm : VReg)
  /-- R412 `asr_wide_pred`: ASR (arithmetic shift right by 64-bit wide elements, predicated). -/
  | asrWidePred (size : ReqInt) (zd : VReg) (pg : GovPred) (zn zm : VReg)
  /-- R413 `lsr_wide_pred`: LSR (logical shift right by 64-bit wide elements, predicated). -/
  | lsrWidePred (size : ReqInt) (zd : VReg) (pg : GovPred) (zn zm : VReg)
  /-- R414 `lsl_wide_pred`: LSL (logical shift left by 64-bit wide elements, predicated). -/
  | lslWidePred (size : ReqInt) (zd : VReg) (pg : GovPred) (zn zm : VReg)
  /-- R415 `asr_wide_unpred`: ASR (arithmetic shift right by 64-bit wide elements, unpredicated). -/
  | asrWideUnpred (size : ReqInt) (zd zn zm : VReg)
  /-- R416 `lsr_wide_unpred`: LSR (logical shift right by 64-bit wide elements, unpredicated). -/
  | lsrWideUnpred (size : ReqInt) (zd zn zm : VReg)
  /-- R417 `lsl_wide_unpred`: LSL (logical shift left by 64-bit wide elements, unpredicated). -/
  | lslWideUnpred (size : ReqInt) (zd zn zm : VReg)
  -- 48_widen_narrow.md
  /-- R420 `saddlb`: SADDLB (signed add long (bottom)). -/
  | saddlb (size : ReqInt) (zd zn zm : VReg)
  /-- R421 `saddlt`: SADDLT (signed add long (top)). -/
  | saddlt (size : ReqInt) (zd zn zm : VReg)
  /-- R422 `uaddlb`: UADDLB (unsigned add long (bottom)). -/
  | uaddlb (size : ReqInt) (zd zn zm : VReg)
  /-- R423 `uaddlt`: UADDLT (unsigned add long (top)). -/
  | uaddlt (size : ReqInt) (zd zn zm : VReg)
  /-- R424 `ssublb`: SSUBLB (signed subtract long (bottom)). -/
  | ssublb (size : ReqInt) (zd zn zm : VReg)
  /-- R425 `ssublt`: SSUBLT (signed subtract long (top)). -/
  | ssublt (size : ReqInt) (zd zn zm : VReg)
  /-- R426 `usublb`: USUBLB (unsigned subtract long (bottom)). -/
  | usublb (size : ReqInt) (zd zn zm : VReg)
  /-- R427 `usublt`: USUBLT (unsigned subtract long (top)). -/
  | usublt (size : ReqInt) (zd zn zm : VReg)
  /-- R428 `sabdlb`: SABDLB (signed absolute difference long (bottom)). -/
  | sabdlb (size : ReqInt) (zd zn zm : VReg)
  /-- R429 `sabdlt`: SABDLT (signed absolute difference long (top)). -/
  | sabdlt (size : ReqInt) (zd zn zm : VReg)
  /-- R430 `uabdlb`: UABDLB (unsigned absolute difference long (bottom)). -/
  | uabdlb (size : ReqInt) (zd zn zm : VReg)
  /-- R431 `uabdlt`: UABDLT (unsigned absolute difference long (top)). -/
  | uabdlt (size : ReqInt) (zd zn zm : VReg)
  /-- R432 `sshllb`: SSHLLB (signed shift left long by immediate (bottom)). -/
  | sshllb (size : ReqInt) (zd zn : VReg) (shift : ReqInt)
  /-- R433 `sshllt`: SSHLLT (signed shift left long by immediate (top)). -/
  | sshllt (size : ReqInt) (zd zn : VReg) (shift : ReqInt)
  /-- R434 `ushllb`: USHLLB (unsigned shift left long by immediate (bottom)). -/
  | ushllb (size : ReqInt) (zd zn : VReg) (shift : ReqInt)
  /-- R435 `ushllt`: USHLLT (unsigned shift left long by immediate (top)). -/
  | ushllt (size : ReqInt) (zd zn : VReg) (shift : ReqInt)
  /-- R436 `addhnb`: ADDHNB (add narrow high part (bottom)). -/
  | addhnb (size : ReqInt) (zd zn zm : VReg)
  /-- R437 `addhnt`: ADDHNT (add narrow high part (top)). -/
  | addhnt (size : ReqInt) (zd zn zm : VReg)
  /-- R438 `raddhnb`: RADDHNB (rounding add narrow high part (bottom)). -/
  | raddhnb (size : ReqInt) (zd zn zm : VReg)
  /-- R439 `raddhnt`: RADDHNT (rounding add narrow high part (top)). -/
  | raddhnt (size : ReqInt) (zd zn zm : VReg)
  /-- R440 `subhnb`: SUBHNB (subtract narrow high part (bottom)). -/
  | subhnb (size : ReqInt) (zd zn zm : VReg)
  /-- R441 `subhnt`: SUBHNT (subtract narrow high part (top)). -/
  | subhnt (size : ReqInt) (zd zn zm : VReg)
  /-- R442 `rsubhnb`: RSUBHNB (rounding subtract narrow high part (bottom)). -/
  | rsubhnb (size : ReqInt) (zd zn zm : VReg)
  /-- R443 `rsubhnt`: RSUBHNT (rounding subtract narrow high part (top)). -/
  | rsubhnt (size : ReqInt) (zd zn zm : VReg)
  /-- R444 `sqshrunb`: SQSHRUNB (signed saturating shift right unsigned narrow by immediate (bottom)). -/
  | sqshrunb (size : ReqInt) (zd zn : VReg) (shift : ReqInt)
  /-- R445 `sqshrunt`: SQSHRUNT (signed saturating shift right unsigned narrow by immediate (top)). -/
  | sqshrunt (size : ReqInt) (zd zn : VReg) (shift : ReqInt)
  /-- R446 `sqrshrunb`: SQRSHRUNB (rounding signed saturating shift right unsigned narrow by immediate (bottom)). -/
  | sqrshrunb (size : ReqInt) (zd zn : VReg) (shift : ReqInt)
  /-- R447 `sqrshrunt`: SQRSHRUNT (rounding signed saturating shift right unsigned narrow by immediate (top)). -/
  | sqrshrunt (size : ReqInt) (zd zn : VReg) (shift : ReqInt)
  /-- R448 `shrnb`: SHRNB (shift right narrow by immediate (bottom)). -/
  | shrnb (size : ReqInt) (zd zn : VReg) (shift : ReqInt)
  /-- R449 `shrnt`: SHRNT (shift right narrow by immediate (top)). -/
  | shrnt (size : ReqInt) (zd zn : VReg) (shift : ReqInt)
  /-- R450 `rshrnb`: RSHRNB (rounding shift right narrow by immediate (bottom)). -/
  | rshrnb (size : ReqInt) (zd zn : VReg) (shift : ReqInt)
  /-- R451 `rshrnt`: RSHRNT (rounding shift right narrow by immediate (top)). -/
  | rshrnt (size : ReqInt) (zd zn : VReg) (shift : ReqInt)
  /-- R452 `sqshrnb`: SQSHRNB (signed saturating shift right narrow by immediate (bottom)). -/
  | sqshrnb (size : ReqInt) (zd zn : VReg) (shift : ReqInt)
  /-- R453 `sqshrnt`: SQSHRNT (signed saturating shift right narrow by immediate (top)). -/
  | sqshrnt (size : ReqInt) (zd zn : VReg) (shift : ReqInt)
  /-- R454 `sqrshrnb`: SQRSHRNB (rounding signed saturating shift right narrow by immediate (bottom)). -/
  | sqrshrnb (size : ReqInt) (zd zn : VReg) (shift : ReqInt)
  /-- R455 `sqrshrnt`: SQRSHRNT (rounding signed saturating shift right narrow by immediate (top)). -/
  | sqrshrnt (size : ReqInt) (zd zn : VReg) (shift : ReqInt)
  /-- R456 `uqshrnb`: UQSHRNB (unsigned saturating shift right narrow by immediate (bottom)). -/
  | uqshrnb (size : ReqInt) (zd zn : VReg) (shift : ReqInt)
  /-- R457 `uqshrnt`: UQSHRNT (unsigned saturating shift right narrow by immediate (top)). -/
  | uqshrnt (size : ReqInt) (zd zn : VReg) (shift : ReqInt)
  /-- R458 `uqrshrnb`: UQRSHRNB (rounding unsigned saturating shift right narrow by immediate (bottom)). -/
  | uqrshrnb (size : ReqInt) (zd zn : VReg) (shift : ReqInt)
  /-- R459 `uqrshrnt`: UQRSHRNT (rounding unsigned saturating shift right narrow by immediate (top)). -/
  | uqrshrnt (size : ReqInt) (zd zn : VReg) (shift : ReqInt)
  /-- R460 `ssra`: SSRA (signed shift right and accumulate). -/
  | ssra (size : ReqInt) (zda zn : VReg) (shift : ReqInt)
  /-- R461 `usra`: USRA (unsigned shift right and accumulate). -/
  | usra (size : ReqInt) (zda zn : VReg) (shift : ReqInt)
  /-- R462 `srsra`: SRSRA (signed rounding shift right and accumulate). -/
  | srsra (size : ReqInt) (zda zn : VReg) (shift : ReqInt)
  /-- R463 `ursra`: URSRA (unsigned rounding shift right and accumulate). -/
  | ursra (size : ReqInt) (zda zn : VReg) (shift : ReqInt)
  /-- R464 `sri`: SRI (shift right and insert). -/
  | sri (size : ReqInt) (zd zn : VReg) (shift : ReqInt)
  /-- R465 `sli`: SLI (shift left and insert). -/
  | sli (size : ReqInt) (zd zn : VReg) (shift : ReqInt)
  -- 49_fp_index_stack_misc.md
  /-- R468 `fadd_unpred`: FADD (floating-point add, unpredicated). -/
  | faddUnpred (size : ReqInt) (zd zn zm : VReg)
  /-- R469 `fsub_unpred`: FSUB (floating-point subtract, unpredicated). -/
  | fsubUnpred (size : ReqInt) (zd zn zm : VReg)
  /-- R470 `fmul_unpred`: FMUL (floating-point multiply, unpredicated). -/
  | fmulUnpred (size : ReqInt) (zd zn zm : VReg)
  /-- R471 `ftsmul_unpred`: FTSMUL (floating-point trigonometric starting value, unpredicated). -/
  | ftsmulUnpred (size : ReqInt) (zd zn zm : VReg)
  /-- R472 `frecps_unpred`: FRECPS (floating-point reciprocal step, unpredicated). -/
  | frecpsUnpred (size : ReqInt) (zd zn zm : VReg)
  /-- R473 `frsqrts_unpred`: FRSQRTS (floating-point reciprocal square root step, unpredicated). -/
  | frsqrtsUnpred (size : ReqInt) (zd zn zm : VReg)
  /-- R474 `fadd_pred`: FADD (floating-point add, predicated). -/
  | faddPred (size : ReqInt) (zd : VReg) (pg : GovPred) (zn zm : VReg)
  /-- R475 `fsub_pred`: FSUB (floating-point subtract, predicated). -/
  | fsubPred (size : ReqInt) (zd : VReg) (pg : GovPred) (zn zm : VReg)
  /-- R476 `fmul_pred`: FMUL (floating-point multiply, predicated). -/
  | fmulPred (size : ReqInt) (zd : VReg) (pg : GovPred) (zn zm : VReg)
  /-- R477 `fsubr_pred`: FSUBR (floating-point reversed subtract, predicated). -/
  | fsubrPred (size : ReqInt) (zd : VReg) (pg : GovPred) (zn zm : VReg)
  /-- R478 `fmaxnm_pred`: FMAXNM (floating-point maximum number, predicated). -/
  | fmaxnmPred (size : ReqInt) (zd : VReg) (pg : GovPred) (zn zm : VReg)
  /-- R479 `fminnm_pred`: FMINNM (floating-point minimum number, predicated). -/
  | fminnmPred (size : ReqInt) (zd : VReg) (pg : GovPred) (zn zm : VReg)
  /-- R480 `fmax_pred`: FMAX (floating-point maximum, predicated). -/
  | fmaxPred (size : ReqInt) (zd : VReg) (pg : GovPred) (zn zm : VReg)
  /-- R481 `fmin_pred`: FMIN (floating-point minimum, predicated). -/
  | fminPred (size : ReqInt) (zd : VReg) (pg : GovPred) (zn zm : VReg)
  /-- R482 `fabd_pred`: FABD (floating-point absolute difference, predicated). -/
  | fabdPred (size : ReqInt) (zd : VReg) (pg : GovPred) (zn zm : VReg)
  /-- R483 `fscale_pred`: FSCALE (floating-point adjust exponent, predicated). -/
  | fscalePred (size : ReqInt) (zd : VReg) (pg : GovPred) (zn zm : VReg)
  /-- R484 `fmulx_pred`: FMULX (floating-point multiply extended, predicated). -/
  | fmulxPred (size : ReqInt) (zd : VReg) (pg : GovPred) (zn zm : VReg)
  /-- R485 `fdivr_pred`: FDIVR (floating-point reversed divide, predicated). -/
  | fdivrPred (size : ReqInt) (zd : VReg) (pg : GovPred) (zn zm : VReg)
  /-- R486 `fdiv_pred`: FDIV (floating-point divide, predicated). -/
  | fdivPred (size : ReqInt) (zd : VReg) (pg : GovPred) (zn zm : VReg)
  /-- R487 `fcmge_vec`: FCMGE (floating-point compare vectors greater than or equal). -/
  | fcmgeVec (size : ReqInt) (pd : PReg) (pg : GovPred) (zn zm : VReg)
  /-- R488 `fcmgt_vec`: FCMGT (floating-point compare vectors greater than). -/
  | fcmgtVec (size : ReqInt) (pd : PReg) (pg : GovPred) (zn zm : VReg)
  /-- R489 `fcmeq_vec`: FCMEQ (floating-point compare vectors equal). -/
  | fcmeqVec (size : ReqInt) (pd : PReg) (pg : GovPred) (zn zm : VReg)
  /-- R490 `fcmne_vec`: FCMNE (floating-point compare vectors not equal). -/
  | fcmneVec (size : ReqInt) (pd : PReg) (pg : GovPred) (zn zm : VReg)
  /-- R491 `fcmuo_vec`: FCMUO (floating-point compare vectors unordered). -/
  | fcmuoVec (size : ReqInt) (pd : PReg) (pg : GovPred) (zn zm : VReg)
  /-- R492 `facge_vec`: FACGE (floating-point compare vectors absolute greater than or equal). -/
  | facgeVec (size : ReqInt) (pd : PReg) (pg : GovPred) (zn zm : VReg)
  /-- R493 `facgt_vec`: FACGT (floating-point compare vectors absolute greater than). -/
  | facgtVec (size : ReqInt) (pd : PReg) (pg : GovPred) (zn zm : VReg)
  /-- R494 `fcvt`: FCVT (floating-point convert precision, predicated). -/
  | fcvt (dsize ssize : ReqInt) (zd : VReg) (pg : GovPred) (zn : VReg)
  /-- R495 `fcadd`: FCADD (floating-point complex add with rotate, predicated). -/
  | fcadd (size : ReqInt) (zd : VReg) (pg : GovPred) (zn zm : VReg) (rot : ReqInt)
  /-- R496 `fcmla`: FCMLA (floating-point complex multiply-add with rotate, predicated). -/
  | fcmla (size : ReqInt) (zda : VReg) (pg : GovPred) (zn zm : VReg) (rot : ReqInt)
  /-- R497 `index_ii`: INDEX (create index vector from immediate start and immediate step). -/
  | indexIi (size : ReqInt) (zd : VReg) (start step : ReqInt)
  /-- R498 `index_ri`: INDEX (create index vector from scalar start and immediate step). -/
  | indexRi (size : ReqInt) (zd : VReg) (rn : XReg) (step : ReqInt)
  /-- R499 `index_ir`: INDEX (create index vector from immediate start and scalar step). -/
  | indexIr (size : ReqInt) (zd : VReg) (start : ReqInt) (rm : XReg)
  /-- R500 `index_rr`: INDEX (create index vector from scalar start and scalar step). -/
  | indexRr (size : ReqInt) (zd : VReg) (rn rm : XReg)
  /-- R501 `addvl`: ADDVL (add multiple of the vector register length in bytes to a scalar register). -/
  | addvl (rd rn : XReg) (imm : ReqInt)
  /-- R502 `addpl`: ADDPL (add multiple of the predicate register length in bytes to a scalar register). -/
  | addpl (rd rn : XReg) (imm : ReqInt)
  /-- R503 `rdvl`: RDVL (read multiple of the vector register length in bytes to a scalar register). -/
  | rdvl (rd : XReg) (imm : ReqInt)
  /-- R504 `ftssel`: FTSSEL (floating-point trigonometric select coefficient). -/
  | ftssel (size : ReqInt) (zd zn zm : VReg)
  /-- R505 `fexpa`: FEXPA (floating-point exponential accelerator). -/
  | fexpa (size : ReqInt) (zd zn : VReg)
  /-- R506 `movprfx_unpred`: MOVPRFX (move prefix, unpredicated). -/
  | movprfxUnpred (zd zn : VReg)
  /-- R507 `movprfx_pred`: MOVPRFX (move prefix, predicated). -/
  | movprfxPred (size : ReqInt) (zd : VReg) (pg : GovPred) (zn : VReg)
  deriving DecidableEq, Repr

end Sys2Proof
end

