-- ==== Sys2Proof/Machine/Operands.lean ====
section
/-! DEFINITION. Every operand form of a request: what makes it legal (R161, R66, R72, R169, R170,
R173), the check an operation makes of it with the cause and the value the check records (R601), and
the value its field takes in the word (R62 to R77). -/

namespace Sys2Proof.Machine

/-! ## Predication styles (R61, R173) -/

/-- Style code 0: no suffix (R61). -/
abbrev Style.plain : BitVec 2 := 0
/-- Style code 1: `/m` (R61). -/
abbrev Style.merging : BitVec 2 := 1
/-- Style code 2: `/z` (R61). -/
abbrev Style.zeroing : BitVec 2 := 2

/-! ## What is legal -/

/-- The size is in the operation's legal set (R62). -/
def legalSize (legal : List ReqInt) (size : ReqInt) : Bool := legal.contains size

/-- A governing predicate of a 3-bit field is p0..p7 (R64). -/
def lowPredicate (pg : GovPred) : Bool := decide (pg.idx ≤ 7)

/-- The style is one the operation supports (R173); style code 3 is none of them. -/
def styleIn (supported : List (BitVec 2)) (pg : GovPred) : Bool := supported.contains pg.style

/-- The destructive relation: two operands name one register (R169). -/
def sameRegister {n : Nat} (a b : BitVec n) : Bool := a == b

/-- The registers after the first follow it one by one, 31 followed by 0 (R170): `seq(zt1, k)` is
`(zt1 + k) mod 32`, which is 5-bit addition. -/
def sequential (first : VReg) : List VReg → Bool
  | [] => true
  | z :: rest => z == first + 1 && sequential (first + 1) rest

/-- `lo <= imm <= hi` on the signed integer (R71, R72, R74). -/
def inInterval (lo hi : Int) (imm : ReqInt) : Bool := decide (lo ≤ imm.toInt ∧ imm.toInt ≤ hi)

/-- `imm mod n = 0` (R72). -/
def isMultiple (n : Int) (imm : ReqInt) : Bool := decide (imm.toInt % n = 0)

/-- The rotation is in the operation's legal set (R75). -/
def legalRotation (legal : List ReqInt) (rot : ReqInt) : Bool := legal.contains rot

/-- A right shift by immediate: `0 < shift <= width` (R66). -/
def rightShiftRange (width : Int) (shift : ReqInt) : Bool :=
  decide (0 < shift.toInt ∧ shift.toInt ≤ width)

/-- A left shift by immediate: `0 <= shift < width` (R66). -/
def leftShiftRange (width : Int) (shift : ReqInt) : Bool :=
  decide (0 ≤ shift.toInt ∧ shift.toInt < width)

/-- `0 <= index < 512 / size` (R73). -/
def indexRange (size index : ReqInt) : Bool :=
  decide (0 ≤ index.toInt ∧ index.toInt < 512 / size.toInt)

/-- `dsize != ssize` (R494). -/
def distinctSizes (dsize ssize : ReqInt) : Bool := dsize != ssize

/-! ## Checks (R160, R161, R601) -/

/-- One `require` line: whether it holds, the cause raised if it does not, and the offending value
recorded in `diag.value` (R8, R601). -/
structure Check where
  ok : Bool
  cause : Cause
  value : ReqInt
  deriving DecidableEq, Repr

/-- ElementSize; records the size (R601). -/
def requireSize (legal : List ReqInt) (size : ReqInt) : Check :=
  ⟨legalSize legal size, .elementSize, size⟩

/-- OperandRange; records `pg.idx` (R601), extended with zeros (log 16). -/
def requireLowPredicate (pg : GovPred) : Check :=
  ⟨lowPredicate pg, .operandRange, pg.idx.setWidth 32⟩

/-- OperandRange; records the style code (R601). -/
def requireStyle (supported : List (BitVec 2)) (pg : GovPred) : Check :=
  ⟨styleIn supported pg, .operandRange, pg.style.setWidth 32⟩

/-- Aliasing; records the index of the first register of the relation (R601). -/
def requireSame {n : Nat} (a b : BitVec n) : Check :=
  ⟨sameRegister a b, .aliasing, a.setWidth 32⟩

/-- Aliasing; records the index of the first register of the relation, the one the others must follow
(R170, R601). -/
def requireSequence (first : VReg) (rest : List VReg) : Check :=
  ⟨sequential first rest, .aliasing, first.setWidth 32⟩

/-- ImmediateRange; records the immediate (R601). -/
def requireInterval (lo hi : Int) (imm : ReqInt) : Check := ⟨inInterval lo hi imm, .immediateRange, imm⟩

/-- ImmediateRange; records the immediate (R601). -/
def requireMultiple (n : Int) (imm : ReqInt) : Check := ⟨isMultiple n imm, .immediateRange, imm⟩

/-- ImmediateRange; records the rotation in degrees (R601). -/
def requireRotation (legal : List ReqInt) (rot : ReqInt) : Check :=
  ⟨legalRotation legal rot, .immediateRange, rot⟩

/-- ImmediateRange; records the shift (R66, R601). -/
def requireRightShift (width : Int) (shift : ReqInt) : Check :=
  ⟨rightShiftRange width shift, .immediateRange, shift⟩

/-- ImmediateRange; records the shift (R66, R601). -/
def requireLeftShift (width : Int) (shift : ReqInt) : Check :=
  ⟨leftShiftRange width shift, .immediateRange, shift⟩

/-- ImmediateRange; records the index (R73, R601). -/
def requireIndex (size index : ReqInt) : Check := ⟨indexRange size index, .immediateRange, index⟩

/-- ElementSize; records the size, of the two equal ones the first (R494, R601). -/
def requireDistinctSizes (dsize ssize : ReqInt) : Check :=
  ⟨distinctSizes dsize ssize, .elementSize, dsize⟩

/-- The first check that fails, in the order written (R609). -/
def firstFailed (checks : List Check) : Option Check := checks.find? (fun c => !c.ok)

/-! ## Field values -/

/-- `sizecode` (R62): 8, 16, 32, 64 give 0, 1, 2, 3. No operation places it for another size: its size
check stands before (log 17). -/
def sizecode (size : ReqInt) : Nat :=
  if size = 8 then 0 else if size = 16 then 1 else if size = 32 then 2 else 3

/-- `sizecode` as a 2-bit field. -/
def sizeField (size : ReqInt) : BitVec 2 := BitVec.ofNat 2 (sizecode size)

/-- `sizecode` as a 4-bit number, for the `dtype` sums of R76. -/
def sizeField4 (size : ReqInt) : BitVec 4 := BitVec.ofNat 4 (sizecode size)

/-- `imm mod m`, the non-negative remainder (R7, R71). -/
def modField (imm : ReqInt) (m : Int) : Nat := (imm.toInt % m).toNat

/-- `(imm / n) mod 16` (R72). -/
def scaledField (imm : ReqInt) (n : Int) : Nat := (imm.toInt / n % 16).toNat

/-- The predication-style bit `M`: 1 for merging, 0 for zeroing (R77). -/
def mergeBit (pg : GovPred) : Nat := if pg.style = Style.merging then 1 else 0

/-- The 1-bit rotation field: 0 for 90, 1 for 270 (R75). -/
def oddRotation (rot : ReqInt) : Nat := if rot = 270 then 1 else 0

/-- The three fields of the shift-field codec (R67). -/
structure ShiftTriple where
  high : BitVec 2
  low : BitVec 2
  res : BitVec 3
  deriving DecidableEq, Repr

/-- `InverseShift` (R65). -/
def inverseShift (width shift : Int) (left : Bool) : Int := if left then shift else 2 * width - shift

/-- The shift-field codec `ShiftFields` (R65 to R67), its lookup by codec size 8, 16, 32, 64. -/
def shiftFields (width shift : Int) (left : Bool) : ShiftTriple :=
  let is := BitVec.ofInt 7 (inverseShift width shift left)
  if width = 8 then ⟨0b00, 0b01, is.extractLsb' 0 3⟩
  else if width = 16 then ⟨0b00, 0b1#1 ++ is.extractLsb' 3 1, is.extractLsb' 0 3⟩
  else if width = 32 then ⟨0b01, is.extractLsb' 3 2, is.extractLsb' 0 3⟩
  else ⟨0b1#1 ++ is.extractLsb' 5 1, is.extractLsb' 3 2, is.extractLsb' 0 3⟩

/-- `v7` of the indexed duplicate: `(index << (log2(size / 8) + 1)) | (size / 8)` (R73). -/
def indexedImmediate (size index : ReqInt) : BitVec 7 :=
  BitVec.ofNat 7 ((index.toNat <<< (Nat.log2 (size.toNat / 8) + 1)) ||| (size.toNat / 8))

/-- `FcvtTable(dsize, ssize)` as (`opc`, `opc2`) (R494). It is read only after the checks have made the
pair one of the six (log 17). -/
def fcvtTable (dsize ssize : ReqInt) : Nat × Nat :=
  if dsize = 16 then (if ssize = 32 then (0b10, 0b00) else (0b11, 0b00))
  else if dsize = 32 then (if ssize = 16 then (0b10, 0b01) else (0b11, 0b10))
  else (if ssize = 16 then (0b11, 0b01) else (0b11, 0b11))

/-- `FcvtTable` as the two 2-bit fields. -/
def fcvtCode (dsize ssize : ReqInt) : BitVec 2 × BitVec 2 :=
  (BitVec.ofNat 2 (fcvtTable dsize ssize).1, BitVec.ofNat 2 (fcvtTable dsize ssize).2)

/-! ## Reading a field back (R69, R79) -/

/-- The size whose `sizecode` is given (R62). -/
def sizeOfCode (code : BitVec 2) : ReqInt := 8#32 <<< code

/-- The narrow size whose `sizecode` is one less than the code given (R419); code 0 is no size. -/
def narrowSizeOfCode (code : BitVec 2) : ReqInt := if code = 0 then 0 else 8#32 <<< (code - 1)

/-- Merging or zeroing from the bit `M` (R77). -/
def styleOfBit (m : BitVec 1) : BitVec 2 := if m = 1 then Style.merging else Style.zeroing

/-- The codec size: the highest set bit of `high:low:res` (R69). A value below 8 has no size. -/
def codecSize (v : BitVec 7) : ReqInt :=
  if 64 ≤ v then 64 else if 32 ≤ v then 32 else if 16 ≤ v then 16 else if 8 ≤ v then 8 else 0

/-- A left shift is `V - size` (R69). -/
def leftShiftOf (v : BitVec 7) : ReqInt := v.setWidth 32 - codecSize v

/-- A right shift is `2 * size - V` (R69). -/
def rightShiftOf (v : BitVec 7) : ReqInt := 2 * codecSize v - v.setWidth 32

/-- The size an indexed duplicate's `v7` names: eight times its lowest set bit (R73). -/
def indexedSize (v7 : BitVec 7) : ReqInt :=
  if v7.getLsbD 0 then 8 else if v7.getLsbD 1 then 16 else if v7.getLsbD 2 then 32
  else if v7.getLsbD 3 then 64 else if v7.getLsbD 4 then 128 else 0

/-- The index an indexed duplicate's `v7` holds: the bits above the lowest set one (R73). -/
def indexedIndex (v7 : BitVec 7) : ReqInt :=
  (v7 >>> (Nat.log2 ((indexedSize v7).toNat / 8) + 1)).setWidth 32

/-- The pair of sizes of an (`opc`, `opc2`) pair of `FcvtTable` (R494); no pair for the others. -/
def fcvtSizes (opc opc2 : BitVec 2) : ReqInt × ReqInt :=
  if opc = 0b10 then (if opc2 = 0b00 then (16, 32) else if opc2 = 0b01 then (32, 16) else (0, 0))
  else if opc = 0b11 then
    (if opc2 = 0b00 then (16, 64) else if opc2 = 0b01 then (64, 16)
     else if opc2 = 0b10 then (32, 64) else (64, 32))
  else (0, 0)

end Sys2Proof.Machine
end

