-- ==== Sys2Proof/WellFormed.lean ====
section
/-! DEFINITION. Which requests satisfy every precondition of their operation: the legal sets of the
rule's "Operands" line and the relations its "Exceptions" line names (R161, R178). A request is
well formed exactly when the block, not halted, accepts it; the order of the checks plays no part here. -/

namespace Sys2Proof

open Sys2Proof.Machine

/-- Every precondition of the request's operation holds. -/
def Instr.wellFormed : Instr → Bool
  | .addUnpred size _ _ _ => legalSize [8, 16, 32, 64] size
  | .subUnpred size _ _ _ => legalSize [8, 16, 32, 64] size
  | .sqaddUnpred size _ _ _ => legalSize [8, 16, 32, 64] size
  | .uqaddUnpred size _ _ _ => legalSize [8, 16, 32, 64] size
  | .sqsubUnpred size _ _ _ => legalSize [8, 16, 32, 64] size
  | .uqsubUnpred size _ _ _ => legalSize [8, 16, 32, 64] size
  | .addPred size zd pg zn _ => legalSize [8, 16, 32, 64] size && lowPredicate pg && styleIn [Style.merging] pg && sameRegister zd zn
  | .subPred size zd pg zn _ => legalSize [8, 16, 32, 64] size && lowPredicate pg && styleIn [Style.merging] pg && sameRegister zd zn
  | .subrPred size zd pg zn _ => legalSize [8, 16, 32, 64] size && lowPredicate pg && styleIn [Style.merging] pg && sameRegister zd zn
  | .smaxPred size zd pg zn _ => legalSize [8, 16, 32, 64] size && lowPredicate pg && styleIn [Style.merging] pg && sameRegister zd zn
  | .umaxPred size zd pg zn _ => legalSize [8, 16, 32, 64] size && lowPredicate pg && styleIn [Style.merging] pg && sameRegister zd zn
  | .sminPred size zd pg zn _ => legalSize [8, 16, 32, 64] size && lowPredicate pg && styleIn [Style.merging] pg && sameRegister zd zn
  | .uminPred size zd pg zn _ => legalSize [8, 16, 32, 64] size && lowPredicate pg && styleIn [Style.merging] pg && sameRegister zd zn
  | .sabdPred size zd pg zn _ => legalSize [8, 16, 32, 64] size && lowPredicate pg && styleIn [Style.merging] pg && sameRegister zd zn
  | .uabdPred size zd pg zn _ => legalSize [8, 16, 32, 64] size && lowPredicate pg && styleIn [Style.merging] pg && sameRegister zd zn
  | .orrPred size zd pg zn _ => legalSize [8, 16, 32, 64] size && lowPredicate pg && styleIn [Style.merging] pg && sameRegister zd zn
  | .eorPred size zd pg zn _ => legalSize [8, 16, 32, 64] size && lowPredicate pg && styleIn [Style.merging] pg && sameRegister zd zn
  | .andPred size zd pg zn _ => legalSize [8, 16, 32, 64] size && lowPredicate pg && styleIn [Style.merging] pg && sameRegister zd zn
  | .bicPred size zd pg zn _ => legalSize [8, 16, 32, 64] size && lowPredicate pg && styleIn [Style.merging] pg && sameRegister zd zn
  | .andUnpred _ _ _ => true
  | .orrUnpred _ _ _ => true
  | .eorUnpred _ _ _ => true
  | .bicUnpred _ _ _ => true
  | .cadd size zd zn _ rot => legalSize [8, 16, 32, 64] size && legalRotation [90, 270] rot && sameRegister zd zn
  | .sqcadd size zd zn _ rot => legalSize [8, 16, 32, 64] size && legalRotation [90, 270] rot && sameRegister zd zn
  | .cmla size _ _ _ rot => legalSize [8, 16, 32, 64] size && legalRotation [0, 90, 180, 270] rot
  | .cmpgeImm size _ pg _ imm => legalSize [8, 16, 32, 64] size && lowPredicate pg && styleIn [Style.zeroing] pg && inInterval (-16) 15 imm
  | .cmpgtImm size _ pg _ imm => legalSize [8, 16, 32, 64] size && lowPredicate pg && styleIn [Style.zeroing] pg && inInterval (-16) 15 imm
  | .cmpltImm size _ pg _ imm => legalSize [8, 16, 32, 64] size && lowPredicate pg && styleIn [Style.zeroing] pg && inInterval (-16) 15 imm
  | .cmpleImm size _ pg _ imm => legalSize [8, 16, 32, 64] size && lowPredicate pg && styleIn [Style.zeroing] pg && inInterval (-16) 15 imm
  | .cmpeqImm size _ pg _ imm => legalSize [8, 16, 32, 64] size && lowPredicate pg && styleIn [Style.zeroing] pg && inInterval (-16) 15 imm
  | .cmpneImm size _ pg _ imm => legalSize [8, 16, 32, 64] size && lowPredicate pg && styleIn [Style.zeroing] pg && inInterval (-16) 15 imm
  | .cmphsImm size _ pg _ imm => legalSize [8, 16, 32, 64] size && lowPredicate pg && styleIn [Style.zeroing] pg && inInterval 0 127 imm
  | .cmphiImm size _ pg _ imm => legalSize [8, 16, 32, 64] size && lowPredicate pg && styleIn [Style.zeroing] pg && inInterval 0 127 imm
  | .cmploImm size _ pg _ imm => legalSize [8, 16, 32, 64] size && lowPredicate pg && styleIn [Style.zeroing] pg && inInterval 0 127 imm
  | .cmplsImm size _ pg _ imm => legalSize [8, 16, 32, 64] size && lowPredicate pg && styleIn [Style.zeroing] pg && inInterval 0 127 imm
  | .cmphsVec size _ pg _ _ => legalSize [8, 16, 32, 64] size && lowPredicate pg && styleIn [Style.zeroing] pg
  | .cmphiVec size _ pg _ _ => legalSize [8, 16, 32, 64] size && lowPredicate pg && styleIn [Style.zeroing] pg
  | .cmpgeVec size _ pg _ _ => legalSize [8, 16, 32, 64] size && lowPredicate pg && styleIn [Style.zeroing] pg
  | .cmpgtVec size _ pg _ _ => legalSize [8, 16, 32, 64] size && lowPredicate pg && styleIn [Style.zeroing] pg
  | .cmpeqVec size _ pg _ _ => legalSize [8, 16, 32, 64] size && lowPredicate pg && styleIn [Style.zeroing] pg
  | .cmpneVec size _ pg _ _ => legalSize [8, 16, 32, 64] size && lowPredicate pg && styleIn [Style.zeroing] pg
  | .zip1 size _ _ _ => legalSize [8, 16, 32, 64] size
  | .zip2 size _ _ _ => legalSize [8, 16, 32, 64] size
  | .uzp1 size _ _ _ => legalSize [8, 16, 32, 64] size
  | .uzp2 size _ _ _ => legalSize [8, 16, 32, 64] size
  | .trn1 size _ _ _ => legalSize [8, 16, 32, 64] size
  | .trn2 size _ _ _ => legalSize [8, 16, 32, 64] size
  | .tbl size _ _ _ => legalSize [8, 16, 32, 64] size
  | .tbx size _ _ _ => legalSize [8, 16, 32, 64] size
  | .dupIndexed size _ _ index => legalSize [8, 16, 32, 64, 128] size && indexRange size index
  | .extDestructive zd zn _ imm => inInterval 0 255 imm && sameRegister zd zn
  | .extConstructive _ zn zm imm => inInterval 0 255 imm && sequential zn [zm]
  | .spliceDestructive size zd pv zn _ => legalSize [8, 16, 32, 64] size && lowPredicate pv && styleIn [Style.plain] pv && sameRegister zd zn
  | .spliceConstructive size _ pv zn zm => legalSize [8, 16, 32, 64] size && lowPredicate pv && styleIn [Style.plain] pv && sequential zn [zm]
  | .mulPred size zd pg zn _ => legalSize [8, 16, 32, 64] size && lowPredicate pg && styleIn [Style.merging] pg && sameRegister zd zn
  | .smulhPred size zd pg zn _ => legalSize [8, 16, 32, 64] size && lowPredicate pg && styleIn [Style.merging] pg && sameRegister zd zn
  | .umulhPred size zd pg zn _ => legalSize [8, 16, 32, 64] size && lowPredicate pg && styleIn [Style.merging] pg && sameRegister zd zn
  | .sdivPred size zd pg zn _ => legalSize [32, 64] size && lowPredicate pg && styleIn [Style.merging] pg && sameRegister zd zn
  | .udivPred size zd pg zn _ => legalSize [32, 64] size && lowPredicate pg && styleIn [Style.merging] pg && sameRegister zd zn
  | .sdivrPred size zd pg zn _ => legalSize [32, 64] size && lowPredicate pg && styleIn [Style.merging] pg && sameRegister zd zn
  | .udivrPred size zd pg zn _ => legalSize [32, 64] size && lowPredicate pg && styleIn [Style.merging] pg && sameRegister zd zn
  | .saddv size _ pg _ => legalSize [8, 16, 32] size && lowPredicate pg && styleIn [Style.plain] pg
  | .uaddv size _ pg _ => legalSize [8, 16, 32, 64] size && lowPredicate pg && styleIn [Style.plain] pg
  | .smaxv size _ pg _ => legalSize [8, 16, 32, 64] size && lowPredicate pg && styleIn [Style.plain] pg
  | .umaxv size _ pg _ => legalSize [8, 16, 32, 64] size && lowPredicate pg && styleIn [Style.plain] pg
  | .sminv size _ pg _ => legalSize [8, 16, 32, 64] size && lowPredicate pg && styleIn [Style.plain] pg
  | .uminv size _ pg _ => legalSize [8, 16, 32, 64] size && lowPredicate pg && styleIn [Style.plain] pg
  | .orv size _ pg _ => legalSize [8, 16, 32, 64] size && lowPredicate pg && styleIn [Style.plain] pg
  | .eorv size _ pg _ => legalSize [8, 16, 32, 64] size && lowPredicate pg && styleIn [Style.plain] pg
  | .andv size _ pg _ => legalSize [8, 16, 32, 64] size && lowPredicate pg && styleIn [Style.plain] pg
  | .andP _ pg _ _ => styleIn [Style.zeroing] pg
  | .bicP _ pg _ _ => styleIn [Style.zeroing] pg
  | .eorP _ pg _ _ => styleIn [Style.zeroing] pg
  | .selP _ pg _ _ => styleIn [Style.plain] pg
  | .orrP _ pg _ _ => styleIn [Style.zeroing] pg
  | .ornP _ pg _ _ => styleIn [Style.zeroing] pg
  | .norP _ pg _ _ => styleIn [Style.zeroing] pg
  | .nandP _ pg _ _ => styleIn [Style.zeroing] pg
  | .andsP _ pg _ _ => styleIn [Style.zeroing] pg
  | .bicsP _ pg _ _ => styleIn [Style.zeroing] pg
  | .eorsP _ pg _ _ => styleIn [Style.zeroing] pg
  | .orrsP _ pg _ _ => styleIn [Style.zeroing] pg
  | .ornsP _ pg _ _ => styleIn [Style.zeroing] pg
  | .norsP _ pg _ _ => styleIn [Style.zeroing] pg
  | .nandsP _ pg _ _ => styleIn [Style.zeroing] pg
  | .brkpa _ pg _ _ => styleIn [Style.zeroing] pg
  | .brkpb _ pg _ _ => styleIn [Style.zeroing] pg
  | .brkpas _ pg _ _ => styleIn [Style.zeroing] pg
  | .brkpbs _ pg _ _ => styleIn [Style.zeroing] pg
  | .brka _ pg _ => styleIn [Style.merging, Style.zeroing] pg
  | .brkas _ pg _ => styleIn [Style.zeroing] pg
  | .brkb _ pg _ => styleIn [Style.merging, Style.zeroing] pg
  | .brkbs _ pg _ => styleIn [Style.zeroing] pg
  | .brkn pd pg _ pm => styleIn [Style.zeroing] pg && sameRegister pd pm
  | .brkns pd pg _ pm => styleIn [Style.zeroing] pg && sameRegister pd pm
  | .ptrue size _ pattern => legalSize [8, 16, 32, 64] size && inInterval 0 31 pattern
  | .ptrues size _ pattern => legalSize [8, 16, 32, 64] size && inInterval 0 31 pattern
  | .pfalse _ => true
  | .ptest pg _ => styleIn [Style.plain] pg
  | .pfirst pd pg pn => styleIn [Style.plain] pg && sameRegister pd pn
  | .pnext size pd pg pn => legalSize [8, 16, 32, 64] size && styleIn [Style.plain] pg && sameRegister pd pn
  | .rdffrUnpred _ => true
  | .rdffrPred _ pg => styleIn [Style.zeroing] pg
  | .rdffrsPred _ pg => styleIn [Style.zeroing] pg
  | .setffr => true
  | .wrffr _ => true
  | .ld1bSs size _ pg _ _ => legalSize [8, 16, 32, 64] size && lowPredicate pg && styleIn [Style.zeroing] pg
  | .ld1bSi size _ pg _ imm => legalSize [8, 16, 32, 64] size && lowPredicate pg && styleIn [Style.zeroing] pg && inInterval (-8) 7 imm
  | .ld1swSs size _ pg _ _ => legalSize [64] size && lowPredicate pg && styleIn [Style.zeroing] pg
  | .ld1swSi size _ pg _ imm => legalSize [64] size && lowPredicate pg && styleIn [Style.zeroing] pg && inInterval (-8) 7 imm
  | .ld1hSs size _ pg _ _ => legalSize [16, 32, 64] size && lowPredicate pg && styleIn [Style.zeroing] pg
  | .ld1hSi size _ pg _ imm => legalSize [16, 32, 64] size && lowPredicate pg && styleIn [Style.zeroing] pg && inInterval (-8) 7 imm
  | .ld1shSs size _ pg _ _ => legalSize [32, 64] size && lowPredicate pg && styleIn [Style.zeroing] pg
  | .ld1shSi size _ pg _ imm => legalSize [32, 64] size && lowPredicate pg && styleIn [Style.zeroing] pg && inInterval (-8) 7 imm
  | .ld1wSs size _ pg _ _ => legalSize [32, 64] size && lowPredicate pg && styleIn [Style.zeroing] pg
  | .ld1wSi size _ pg _ imm => legalSize [32, 64] size && lowPredicate pg && styleIn [Style.zeroing] pg && inInterval (-8) 7 imm
  | .ld1sbSs size _ pg _ _ => legalSize [16, 32, 64] size && lowPredicate pg && styleIn [Style.zeroing] pg
  | .ld1sbSi size _ pg _ imm => legalSize [16, 32, 64] size && lowPredicate pg && styleIn [Style.zeroing] pg && inInterval (-8) 7 imm
  | .ld1dSs size _ pg _ _ => legalSize [64] size && lowPredicate pg && styleIn [Style.zeroing] pg
  | .ld1dSi size _ pg _ imm => legalSize [64] size && lowPredicate pg && styleIn [Style.zeroing] pg && inInterval (-8) 7 imm
  | .st1bSs size _ pg _ _ => legalSize [8, 16, 32, 64] size && lowPredicate pg && styleIn [Style.plain] pg
  | .st1bSi size _ pg _ imm => legalSize [8, 16, 32, 64] size && lowPredicate pg && styleIn [Style.plain] pg && inInterval (-8) 7 imm
  | .st1hSs size _ pg _ _ => legalSize [16, 32, 64] size && lowPredicate pg && styleIn [Style.plain] pg
  | .st1hSi size _ pg _ imm => legalSize [16, 32, 64] size && lowPredicate pg && styleIn [Style.plain] pg && inInterval (-8) 7 imm
  | .st1wSs size _ pg _ _ => legalSize [32, 64] size && lowPredicate pg && styleIn [Style.plain] pg
  | .st1wSi size _ pg _ imm => legalSize [32, 64] size && lowPredicate pg && styleIn [Style.plain] pg && inInterval (-8) 7 imm
  | .st1dSs size _ pg _ _ => legalSize [64] size && lowPredicate pg && styleIn [Style.plain] pg
  | .st1dSi size _ pg _ imm => legalSize [64] size && lowPredicate pg && styleIn [Style.plain] pg && inInterval (-8) 7 imm
  | .ld2bSs zt1 zt2 pg _ _ => lowPredicate pg && styleIn [Style.zeroing] pg && sequential zt1 [zt2]
  | .ld2bSi zt1 zt2 pg _ imm => lowPredicate pg && styleIn [Style.zeroing] pg && inInterval (-16) 14 imm && sequential zt1 [zt2] && isMultiple 2 imm
  | .ld2hSs zt1 zt2 pg _ _ => lowPredicate pg && styleIn [Style.zeroing] pg && sequential zt1 [zt2]
  | .ld2hSi zt1 zt2 pg _ imm => lowPredicate pg && styleIn [Style.zeroing] pg && inInterval (-16) 14 imm && sequential zt1 [zt2] && isMultiple 2 imm
  | .ld2wSs zt1 zt2 pg _ _ => lowPredicate pg && styleIn [Style.zeroing] pg && sequential zt1 [zt2]
  | .ld2wSi zt1 zt2 pg _ imm => lowPredicate pg && styleIn [Style.zeroing] pg && inInterval (-16) 14 imm && sequential zt1 [zt2] && isMultiple 2 imm
  | .ld2dSs zt1 zt2 pg _ _ => lowPredicate pg && styleIn [Style.zeroing] pg && sequential zt1 [zt2]
  | .ld2dSi zt1 zt2 pg _ imm => lowPredicate pg && styleIn [Style.zeroing] pg && inInterval (-16) 14 imm && sequential zt1 [zt2] && isMultiple 2 imm
  | .ld3bSs zt1 zt2 zt3 pg _ _ => lowPredicate pg && styleIn [Style.zeroing] pg && sequential zt1 [zt2, zt3]
  | .ld3bSi zt1 zt2 zt3 pg _ imm => lowPredicate pg && styleIn [Style.zeroing] pg && inInterval (-24) 21 imm && sequential zt1 [zt2, zt3] && isMultiple 3 imm
  | .ld3hSs zt1 zt2 zt3 pg _ _ => lowPredicate pg && styleIn [Style.zeroing] pg && sequential zt1 [zt2, zt3]
  | .ld3hSi zt1 zt2 zt3 pg _ imm => lowPredicate pg && styleIn [Style.zeroing] pg && inInterval (-24) 21 imm && sequential zt1 [zt2, zt3] && isMultiple 3 imm
  | .ld3wSs zt1 zt2 zt3 pg _ _ => lowPredicate pg && styleIn [Style.zeroing] pg && sequential zt1 [zt2, zt3]
  | .ld3wSi zt1 zt2 zt3 pg _ imm => lowPredicate pg && styleIn [Style.zeroing] pg && inInterval (-24) 21 imm && sequential zt1 [zt2, zt3] && isMultiple 3 imm
  | .ld3dSs zt1 zt2 zt3 pg _ _ => lowPredicate pg && styleIn [Style.zeroing] pg && sequential zt1 [zt2, zt3]
  | .ld3dSi zt1 zt2 zt3 pg _ imm => lowPredicate pg && styleIn [Style.zeroing] pg && inInterval (-24) 21 imm && sequential zt1 [zt2, zt3] && isMultiple 3 imm
  | .ld4bSs zt1 zt2 zt3 zt4 pg _ _ => lowPredicate pg && styleIn [Style.zeroing] pg && sequential zt1 [zt2, zt3, zt4]
  | .ld4bSi zt1 zt2 zt3 zt4 pg _ imm => lowPredicate pg && styleIn [Style.zeroing] pg && inInterval (-32) 28 imm && sequential zt1 [zt2, zt3, zt4] && isMultiple 4 imm
  | .ld4hSs zt1 zt2 zt3 zt4 pg _ _ => lowPredicate pg && styleIn [Style.zeroing] pg && sequential zt1 [zt2, zt3, zt4]
  | .ld4hSi zt1 zt2 zt3 zt4 pg _ imm => lowPredicate pg && styleIn [Style.zeroing] pg && inInterval (-32) 28 imm && sequential zt1 [zt2, zt3, zt4] && isMultiple 4 imm
  | .ld4wSs zt1 zt2 zt3 zt4 pg _ _ => lowPredicate pg && styleIn [Style.zeroing] pg && sequential zt1 [zt2, zt3, zt4]
  | .ld4wSi zt1 zt2 zt3 zt4 pg _ imm => lowPredicate pg && styleIn [Style.zeroing] pg && inInterval (-32) 28 imm && sequential zt1 [zt2, zt3, zt4] && isMultiple 4 imm
  | .ld4dSs zt1 zt2 zt3 zt4 pg _ _ => lowPredicate pg && styleIn [Style.zeroing] pg && sequential zt1 [zt2, zt3, zt4]
  | .ld4dSi zt1 zt2 zt3 zt4 pg _ imm => lowPredicate pg && styleIn [Style.zeroing] pg && inInterval (-32) 28 imm && sequential zt1 [zt2, zt3, zt4] && isMultiple 4 imm
  | .st2bSs zt1 zt2 pg _ _ => lowPredicate pg && styleIn [Style.plain] pg && sequential zt1 [zt2]
  | .st2bSi zt1 zt2 pg _ imm => lowPredicate pg && styleIn [Style.plain] pg && inInterval (-16) 14 imm && sequential zt1 [zt2] && isMultiple 2 imm
  | .st2hSs zt1 zt2 pg _ _ => lowPredicate pg && styleIn [Style.plain] pg && sequential zt1 [zt2]
  | .st2hSi zt1 zt2 pg _ imm => lowPredicate pg && styleIn [Style.plain] pg && inInterval (-16) 14 imm && sequential zt1 [zt2] && isMultiple 2 imm
  | .st2wSs zt1 zt2 pg _ _ => lowPredicate pg && styleIn [Style.plain] pg && sequential zt1 [zt2]
  | .st2wSi zt1 zt2 pg _ imm => lowPredicate pg && styleIn [Style.plain] pg && inInterval (-16) 14 imm && sequential zt1 [zt2] && isMultiple 2 imm
  | .st2dSs zt1 zt2 pg _ _ => lowPredicate pg && styleIn [Style.plain] pg && sequential zt1 [zt2]
  | .st2dSi zt1 zt2 pg _ imm => lowPredicate pg && styleIn [Style.plain] pg && inInterval (-16) 14 imm && sequential zt1 [zt2] && isMultiple 2 imm
  | .st3bSs zt1 zt2 zt3 pg _ _ => lowPredicate pg && styleIn [Style.plain] pg && sequential zt1 [zt2, zt3]
  | .st3bSi zt1 zt2 zt3 pg _ imm => lowPredicate pg && styleIn [Style.plain] pg && inInterval (-24) 21 imm && sequential zt1 [zt2, zt3] && isMultiple 3 imm
  | .st3hSs zt1 zt2 zt3 pg _ _ => lowPredicate pg && styleIn [Style.plain] pg && sequential zt1 [zt2, zt3]
  | .st3hSi zt1 zt2 zt3 pg _ imm => lowPredicate pg && styleIn [Style.plain] pg && inInterval (-24) 21 imm && sequential zt1 [zt2, zt3] && isMultiple 3 imm
  | .st3wSs zt1 zt2 zt3 pg _ _ => lowPredicate pg && styleIn [Style.plain] pg && sequential zt1 [zt2, zt3]
  | .st3wSi zt1 zt2 zt3 pg _ imm => lowPredicate pg && styleIn [Style.plain] pg && inInterval (-24) 21 imm && sequential zt1 [zt2, zt3] && isMultiple 3 imm
  | .st3dSs zt1 zt2 zt3 pg _ _ => lowPredicate pg && styleIn [Style.plain] pg && sequential zt1 [zt2, zt3]
  | .st3dSi zt1 zt2 zt3 pg _ imm => lowPredicate pg && styleIn [Style.plain] pg && inInterval (-24) 21 imm && sequential zt1 [zt2, zt3] && isMultiple 3 imm
  | .st4bSs zt1 zt2 zt3 zt4 pg _ _ => lowPredicate pg && styleIn [Style.plain] pg && sequential zt1 [zt2, zt3, zt4]
  | .st4bSi zt1 zt2 zt3 zt4 pg _ imm => lowPredicate pg && styleIn [Style.plain] pg && inInterval (-32) 28 imm && sequential zt1 [zt2, zt3, zt4] && isMultiple 4 imm
  | .st4hSs zt1 zt2 zt3 zt4 pg _ _ => lowPredicate pg && styleIn [Style.plain] pg && sequential zt1 [zt2, zt3, zt4]
  | .st4hSi zt1 zt2 zt3 zt4 pg _ imm => lowPredicate pg && styleIn [Style.plain] pg && inInterval (-32) 28 imm && sequential zt1 [zt2, zt3, zt4] && isMultiple 4 imm
  | .st4wSs zt1 zt2 zt3 zt4 pg _ _ => lowPredicate pg && styleIn [Style.plain] pg && sequential zt1 [zt2, zt3, zt4]
  | .st4wSi zt1 zt2 zt3 zt4 pg _ imm => lowPredicate pg && styleIn [Style.plain] pg && inInterval (-32) 28 imm && sequential zt1 [zt2, zt3, zt4] && isMultiple 4 imm
  | .st4dSs zt1 zt2 zt3 zt4 pg _ _ => lowPredicate pg && styleIn [Style.plain] pg && sequential zt1 [zt2, zt3, zt4]
  | .st4dSi zt1 zt2 zt3 zt4 pg _ imm => lowPredicate pg && styleIn [Style.plain] pg && inInterval (-32) 28 imm && sequential zt1 [zt2, zt3, zt4] && isMultiple 4 imm
  | .asrImmPred size zd pg zn shift => legalSize [8, 16, 32, 64] size && lowPredicate pg && styleIn [Style.merging] pg && sameRegister zd zn && rightShiftRange size.toInt shift
  | .lsrImmPred size zd pg zn shift => legalSize [8, 16, 32, 64] size && lowPredicate pg && styleIn [Style.merging] pg && sameRegister zd zn && rightShiftRange size.toInt shift
  | .lslImmPred size zd pg zn shift => legalSize [8, 16, 32, 64] size && lowPredicate pg && styleIn [Style.merging] pg && sameRegister zd zn && leftShiftRange size.toInt shift
  | .asrdImmPred size zd pg zn shift => legalSize [8, 16, 32, 64] size && lowPredicate pg && styleIn [Style.merging] pg && sameRegister zd zn && rightShiftRange size.toInt shift
  | .sqshlImmPred size zd pg zn shift => legalSize [8, 16, 32, 64] size && lowPredicate pg && styleIn [Style.merging] pg && sameRegister zd zn && leftShiftRange size.toInt shift
  | .uqshlImmPred size zd pg zn shift => legalSize [8, 16, 32, 64] size && lowPredicate pg && styleIn [Style.merging] pg && sameRegister zd zn && leftShiftRange size.toInt shift
  | .srshrImmPred size zd pg zn shift => legalSize [8, 16, 32, 64] size && lowPredicate pg && styleIn [Style.merging] pg && sameRegister zd zn && rightShiftRange size.toInt shift
  | .urshrImmPred size zd pg zn shift => legalSize [8, 16, 32, 64] size && lowPredicate pg && styleIn [Style.merging] pg && sameRegister zd zn && rightShiftRange size.toInt shift
  | .sqshluImmPred size zd pg zn shift => legalSize [8, 16, 32, 64] size && lowPredicate pg && styleIn [Style.merging] pg && sameRegister zd zn && leftShiftRange size.toInt shift
  | .asrImmUnpred size _ _ shift => legalSize [8, 16, 32, 64] size && rightShiftRange size.toInt shift
  | .lsrImmUnpred size _ _ shift => legalSize [8, 16, 32, 64] size && rightShiftRange size.toInt shift
  | .lslImmUnpred size _ _ shift => legalSize [8, 16, 32, 64] size && leftShiftRange size.toInt shift
  | .asrVecPred size zd pg zn _ => legalSize [8, 16, 32, 64] size && lowPredicate pg && styleIn [Style.merging] pg && sameRegister zd zn
  | .lsrVecPred size zd pg zn _ => legalSize [8, 16, 32, 64] size && lowPredicate pg && styleIn [Style.merging] pg && sameRegister zd zn
  | .lslVecPred size zd pg zn _ => legalSize [8, 16, 32, 64] size && lowPredicate pg && styleIn [Style.merging] pg && sameRegister zd zn
  | .asrrVecPred size zd pg zn _ => legalSize [8, 16, 32, 64] size && lowPredicate pg && styleIn [Style.merging] pg && sameRegister zd zn
  | .lsrrVecPred size zd pg zn _ => legalSize [8, 16, 32, 64] size && lowPredicate pg && styleIn [Style.merging] pg && sameRegister zd zn
  | .lslrVecPred size zd pg zn _ => legalSize [8, 16, 32, 64] size && lowPredicate pg && styleIn [Style.merging] pg && sameRegister zd zn
  | .asrWidePred size zd pg zn _ => legalSize [8, 16, 32] size && lowPredicate pg && styleIn [Style.merging] pg && sameRegister zd zn
  | .lsrWidePred size zd pg zn _ => legalSize [8, 16, 32] size && lowPredicate pg && styleIn [Style.merging] pg && sameRegister zd zn
  | .lslWidePred size zd pg zn _ => legalSize [8, 16, 32] size && lowPredicate pg && styleIn [Style.merging] pg && sameRegister zd zn
  | .asrWideUnpred size _ _ _ => legalSize [8, 16, 32] size
  | .lsrWideUnpred size _ _ _ => legalSize [8, 16, 32] size
  | .lslWideUnpred size _ _ _ => legalSize [8, 16, 32] size
  | .saddlb size _ _ _ => legalSize [16, 32, 64] size
  | .saddlt size _ _ _ => legalSize [16, 32, 64] size
  | .uaddlb size _ _ _ => legalSize [16, 32, 64] size
  | .uaddlt size _ _ _ => legalSize [16, 32, 64] size
  | .ssublb size _ _ _ => legalSize [16, 32, 64] size
  | .ssublt size _ _ _ => legalSize [16, 32, 64] size
  | .usublb size _ _ _ => legalSize [16, 32, 64] size
  | .usublt size _ _ _ => legalSize [16, 32, 64] size
  | .sabdlb size _ _ _ => legalSize [16, 32, 64] size
  | .sabdlt size _ _ _ => legalSize [16, 32, 64] size
  | .uabdlb size _ _ _ => legalSize [16, 32, 64] size
  | .uabdlt size _ _ _ => legalSize [16, 32, 64] size
  | .sshllb size _ _ shift => legalSize [16, 32, 64] size && leftShiftRange (size.toInt / 2) shift
  | .sshllt size _ _ shift => legalSize [16, 32, 64] size && leftShiftRange (size.toInt / 2) shift
  | .ushllb size _ _ shift => legalSize [16, 32, 64] size && leftShiftRange (size.toInt / 2) shift
  | .ushllt size _ _ shift => legalSize [16, 32, 64] size && leftShiftRange (size.toInt / 2) shift
  | .addhnb size _ _ _ => legalSize [8, 16, 32] size
  | .addhnt size _ _ _ => legalSize [8, 16, 32] size
  | .raddhnb size _ _ _ => legalSize [8, 16, 32] size
  | .raddhnt size _ _ _ => legalSize [8, 16, 32] size
  | .subhnb size _ _ _ => legalSize [8, 16, 32] size
  | .subhnt size _ _ _ => legalSize [8, 16, 32] size
  | .rsubhnb size _ _ _ => legalSize [8, 16, 32] size
  | .rsubhnt size _ _ _ => legalSize [8, 16, 32] size
  | .sqshrunb size _ _ shift => legalSize [8, 16, 32] size && rightShiftRange size.toInt shift
  | .sqshrunt size _ _ shift => legalSize [8, 16, 32] size && rightShiftRange size.toInt shift
  | .sqrshrunb size _ _ shift => legalSize [8, 16, 32] size && rightShiftRange size.toInt shift
  | .sqrshrunt size _ _ shift => legalSize [8, 16, 32] size && rightShiftRange size.toInt shift
  | .shrnb size _ _ shift => legalSize [8, 16, 32] size && rightShiftRange size.toInt shift
  | .shrnt size _ _ shift => legalSize [8, 16, 32] size && rightShiftRange size.toInt shift
  | .rshrnb size _ _ shift => legalSize [8, 16, 32] size && rightShiftRange size.toInt shift
  | .rshrnt size _ _ shift => legalSize [8, 16, 32] size && rightShiftRange size.toInt shift
  | .sqshrnb size _ _ shift => legalSize [8, 16, 32] size && rightShiftRange size.toInt shift
  | .sqshrnt size _ _ shift => legalSize [8, 16, 32] size && rightShiftRange size.toInt shift
  | .sqrshrnb size _ _ shift => legalSize [8, 16, 32] size && rightShiftRange size.toInt shift
  | .sqrshrnt size _ _ shift => legalSize [8, 16, 32] size && rightShiftRange size.toInt shift
  | .uqshrnb size _ _ shift => legalSize [8, 16, 32] size && rightShiftRange size.toInt shift
  | .uqshrnt size _ _ shift => legalSize [8, 16, 32] size && rightShiftRange size.toInt shift
  | .uqrshrnb size _ _ shift => legalSize [8, 16, 32] size && rightShiftRange size.toInt shift
  | .uqrshrnt size _ _ shift => legalSize [8, 16, 32] size && rightShiftRange size.toInt shift
  | .ssra size _ _ shift => legalSize [8, 16, 32, 64] size && rightShiftRange size.toInt shift
  | .usra size _ _ shift => legalSize [8, 16, 32, 64] size && rightShiftRange size.toInt shift
  | .srsra size _ _ shift => legalSize [8, 16, 32, 64] size && rightShiftRange size.toInt shift
  | .ursra size _ _ shift => legalSize [8, 16, 32, 64] size && rightShiftRange size.toInt shift
  | .sri size _ _ shift => legalSize [8, 16, 32, 64] size && rightShiftRange size.toInt shift
  | .sli size _ _ shift => legalSize [8, 16, 32, 64] size && leftShiftRange size.toInt shift
  | .faddUnpred size _ _ _ => legalSize [16, 32, 64] size
  | .fsubUnpred size _ _ _ => legalSize [16, 32, 64] size
  | .fmulUnpred size _ _ _ => legalSize [16, 32, 64] size
  | .ftsmulUnpred size _ _ _ => legalSize [16, 32, 64] size
  | .frecpsUnpred size _ _ _ => legalSize [16, 32, 64] size
  | .frsqrtsUnpred size _ _ _ => legalSize [16, 32, 64] size
  | .faddPred size zd pg zn _ => legalSize [16, 32, 64] size && lowPredicate pg && styleIn [Style.merging] pg && sameRegister zd zn
  | .fsubPred size zd pg zn _ => legalSize [16, 32, 64] size && lowPredicate pg && styleIn [Style.merging] pg && sameRegister zd zn
  | .fmulPred size zd pg zn _ => legalSize [16, 32, 64] size && lowPredicate pg && styleIn [Style.merging] pg && sameRegister zd zn
  | .fsubrPred size zd pg zn _ => legalSize [16, 32, 64] size && lowPredicate pg && styleIn [Style.merging] pg && sameRegister zd zn
  | .fmaxnmPred size zd pg zn _ => legalSize [16, 32, 64] size && lowPredicate pg && styleIn [Style.merging] pg && sameRegister zd zn
  | .fminnmPred size zd pg zn _ => legalSize [16, 32, 64] size && lowPredicate pg && styleIn [Style.merging] pg && sameRegister zd zn
  | .fmaxPred size zd pg zn _ => legalSize [16, 32, 64] size && lowPredicate pg && styleIn [Style.merging] pg && sameRegister zd zn
  | .fminPred size zd pg zn _ => legalSize [16, 32, 64] size && lowPredicate pg && styleIn [Style.merging] pg && sameRegister zd zn
  | .fabdPred size zd pg zn _ => legalSize [16, 32, 64] size && lowPredicate pg && styleIn [Style.merging] pg && sameRegister zd zn
  | .fscalePred size zd pg zn _ => legalSize [16, 32, 64] size && lowPredicate pg && styleIn [Style.merging] pg && sameRegister zd zn
  | .fmulxPred size zd pg zn _ => legalSize [16, 32, 64] size && lowPredicate pg && styleIn [Style.merging] pg && sameRegister zd zn
  | .fdivrPred size zd pg zn _ => legalSize [16, 32, 64] size && lowPredicate pg && styleIn [Style.merging] pg && sameRegister zd zn
  | .fdivPred size zd pg zn _ => legalSize [16, 32, 64] size && lowPredicate pg && styleIn [Style.merging] pg && sameRegister zd zn
  | .fcmgeVec size _ pg _ _ => legalSize [16, 32, 64] size && lowPredicate pg && styleIn [Style.zeroing] pg
  | .fcmgtVec size _ pg _ _ => legalSize [16, 32, 64] size && lowPredicate pg && styleIn [Style.zeroing] pg
  | .fcmeqVec size _ pg _ _ => legalSize [16, 32, 64] size && lowPredicate pg && styleIn [Style.zeroing] pg
  | .fcmneVec size _ pg _ _ => legalSize [16, 32, 64] size && lowPredicate pg && styleIn [Style.zeroing] pg
  | .fcmuoVec size _ pg _ _ => legalSize [16, 32, 64] size && lowPredicate pg && styleIn [Style.zeroing] pg
  | .facgeVec size _ pg _ _ => legalSize [16, 32, 64] size && lowPredicate pg && styleIn [Style.zeroing] pg
  | .facgtVec size _ pg _ _ => legalSize [16, 32, 64] size && lowPredicate pg && styleIn [Style.zeroing] pg
  | .fcvt dsize ssize _ pg _ => legalSize [16, 32, 64] dsize && legalSize [16, 32, 64] ssize && lowPredicate pg && styleIn [Style.merging] pg && distinctSizes dsize ssize
  | .fcadd size zd pg zn _ rot => legalSize [16, 32, 64] size && lowPredicate pg && styleIn [Style.merging] pg && legalRotation [90, 270] rot && sameRegister zd zn
  | .fcmla size _ pg _ _ rot => legalSize [16, 32, 64] size && lowPredicate pg && styleIn [Style.merging] pg && legalRotation [0, 90, 180, 270] rot
  | .indexIi size _ start step => legalSize [8, 16, 32, 64] size && inInterval (-16) 15 start && inInterval (-16) 15 step
  | .indexRi size _ _ step => legalSize [8, 16, 32, 64] size && inInterval (-16) 15 step
  | .indexIr size _ start _ => legalSize [8, 16, 32, 64] size && inInterval (-16) 15 start
  | .indexRr size _ _ _ => legalSize [8, 16, 32, 64] size
  | .addvl _ _ imm => inInterval (-32) 31 imm
  | .addpl _ _ imm => inInterval (-32) 31 imm
  | .rdvl _ imm => inInterval (-32) 31 imm
  | .ftssel size _ _ _ => legalSize [16, 32, 64] size
  | .fexpa size _ _ => legalSize [16, 32, 64] size
  | .movprfxUnpred _ _ => true
  | .movprfxPred size _ pg _ => legalSize [8, 16, 32, 64] size && lowPredicate pg && styleIn [Style.merging, Style.zeroing] pg

end Sys2Proof
end

