-- ==== Sys2Proof/Decode.lean ====
section
/-! DEFINITION. Reading the request back from a word (R79), and the word of a request: the `match`, the
`mask` and the fields of the rows of spec/opcode_table.json. The block itself has no decoder (R60, U19;
log 10): it appends words and never reads one. The encoder is written from the rows' `match` and fields, apart
from the packers of Machine/Formats.lean that the meanings use. -/

namespace Sys2Proof

open Sys2Proof.Machine

/- Lean's code generator has 244 tags for the constructors of one type, and Instr has 287: what builds an
Instr has no compiled code. The kernel evaluates these definitions like any other. -/
noncomputable section

/-- One row's fixed bits: a word is the row's if it has `value` under `mask`. The seven contiguous loads
of one addressing form share their fixed bits and are told apart by `dtype` (R76), so they have one
pattern for each (operation, size). -/
structure Pattern where
  mask : Word
  value : Word
  op : OpCode
  deriving DecidableEq, Repr

/-- The patterns of the rows of 41_int_arith_logical.md. -/
def patternsIntegerArith : List Pattern :=
  [⟨0xFF20FC00, 0x04200000, .addUnpred⟩,
   ⟨0xFF20FC00, 0x04200400, .subUnpred⟩,
   ⟨0xFF20FC00, 0x04201000, .sqaddUnpred⟩,
   ⟨0xFF20FC00, 0x04201400, .uqaddUnpred⟩,
   ⟨0xFF20FC00, 0x04201800, .sqsubUnpred⟩,
   ⟨0xFF20FC00, 0x04201C00, .uqsubUnpred⟩,
   ⟨0xFF3FE000, 0x04000000, .addPred⟩,
   ⟨0xFF3FE000, 0x04010000, .subPred⟩,
   ⟨0xFF3FE000, 0x04030000, .subrPred⟩,
   ⟨0xFF3FE000, 0x04080000, .smaxPred⟩,
   ⟨0xFF3FE000, 0x04090000, .umaxPred⟩,
   ⟨0xFF3FE000, 0x040A0000, .sminPred⟩,
   ⟨0xFF3FE000, 0x040B0000, .uminPred⟩,
   ⟨0xFF3FE000, 0x040C0000, .sabdPred⟩,
   ⟨0xFF3FE000, 0x040D0000, .uabdPred⟩,
   ⟨0xFF3FE000, 0x04180000, .orrPred⟩,
   ⟨0xFF3FE000, 0x04190000, .eorPred⟩,
   ⟨0xFF3FE000, 0x041A0000, .andPred⟩,
   ⟨0xFF3FE000, 0x041B0000, .bicPred⟩,
   ⟨0xFFE0FC00, 0x04203000, .andUnpred⟩,
   ⟨0xFFE0FC00, 0x04603000, .orrUnpred⟩,
   ⟨0xFFE0FC00, 0x04A03000, .eorUnpred⟩,
   ⟨0xFFE0FC00, 0x04E03000, .bicUnpred⟩,
   ⟨0xFF3FF800, 0x4500D800, .cadd⟩,
   ⟨0xFF3FF800, 0x4501D800, .sqcadd⟩,
   ⟨0xFF20F000, 0x44002000, .cmla⟩]

/-- The patterns of the rows of 42_compare.md. -/
def patternsCompare : List Pattern :=
  [⟨0xFF20E010, 0x25000000, .cmpgeImm⟩,
   ⟨0xFF20E010, 0x25000010, .cmpgtImm⟩,
   ⟨0xFF20E010, 0x25002000, .cmpltImm⟩,
   ⟨0xFF20E010, 0x25002010, .cmpleImm⟩,
   ⟨0xFF20E010, 0x25008000, .cmpeqImm⟩,
   ⟨0xFF20E010, 0x25008010, .cmpneImm⟩,
   ⟨0xFF202010, 0x24200000, .cmphsImm⟩,
   ⟨0xFF202010, 0x24200010, .cmphiImm⟩,
   ⟨0xFF202010, 0x24202000, .cmploImm⟩,
   ⟨0xFF202010, 0x24202010, .cmplsImm⟩,
   ⟨0xFF20E010, 0x24000000, .cmphsVec⟩,
   ⟨0xFF20E010, 0x24000010, .cmphiVec⟩,
   ⟨0xFF20E010, 0x24008000, .cmpgeVec⟩,
   ⟨0xFF20E010, 0x24008010, .cmpgtVec⟩,
   ⟨0xFF20E010, 0x2400A000, .cmpeqVec⟩,
   ⟨0xFF20E010, 0x2400A010, .cmpneVec⟩]

/-- The patterns of the rows of 43_permute_table_move.md. -/
def patternsPermute : List Pattern :=
  [⟨0xFF20FC00, 0x05206000, .zip1⟩,
   ⟨0xFF20FC00, 0x05206400, .zip2⟩,
   ⟨0xFF20FC00, 0x05206800, .uzp1⟩,
   ⟨0xFF20FC00, 0x05206C00, .uzp2⟩,
   ⟨0xFF20FC00, 0x05207000, .trn1⟩,
   ⟨0xFF20FC00, 0x05207400, .trn2⟩,
   ⟨0xFF20FC00, 0x05203000, .tbl⟩,
   ⟨0xFF20FC00, 0x05202C00, .tbx⟩,
   ⟨0xFF20FC00, 0x05202000, .dupIndexed⟩,
   ⟨0xFFE0E000, 0x05200000, .extDestructive⟩,
   ⟨0xFFE0E000, 0x05600000, .extConstructive⟩,
   ⟨0xFF3FE000, 0x052C8000, .spliceDestructive⟩,
   ⟨0xFF3FE000, 0x052D8000, .spliceConstructive⟩]

/-- The patterns of the rows of 44_muldiv_reduction.md. -/
def patternsMulDivReduction : List Pattern :=
  [⟨0xFF3FE000, 0x04100000, .mulPred⟩,
   ⟨0xFF3FE000, 0x04120000, .smulhPred⟩,
   ⟨0xFF3FE000, 0x04130000, .umulhPred⟩,
   ⟨0xFF3FE000, 0x04140000, .sdivPred⟩,
   ⟨0xFF3FE000, 0x04150000, .udivPred⟩,
   ⟨0xFF3FE000, 0x04160000, .sdivrPred⟩,
   ⟨0xFF3FE000, 0x04170000, .udivrPred⟩,
   ⟨0xFF3FE000, 0x04002000, .saddv⟩,
   ⟨0xFF3FE000, 0x04012000, .uaddv⟩,
   ⟨0xFF3FE000, 0x04082000, .smaxv⟩,
   ⟨0xFF3FE000, 0x04092000, .umaxv⟩,
   ⟨0xFF3FE000, 0x040A2000, .sminv⟩,
   ⟨0xFF3FE000, 0x040B2000, .uminv⟩,
   ⟨0xFF3FE000, 0x04182000, .orv⟩,
   ⟨0xFF3FE000, 0x04192000, .eorv⟩,
   ⟨0xFF3FE000, 0x041A2000, .andv⟩]

/-- The patterns of the rows of 45_predicate.md. -/
def patternsPredicate : List Pattern :=
  [⟨0xFFF0C210, 0x25004000, .andP⟩,
   ⟨0xFFF0C210, 0x25004010, .bicP⟩,
   ⟨0xFFF0C210, 0x25004200, .eorP⟩,
   ⟨0xFFF0C210, 0x25004210, .selP⟩,
   ⟨0xFFF0C210, 0x25804000, .orrP⟩,
   ⟨0xFFF0C210, 0x25804010, .ornP⟩,
   ⟨0xFFF0C210, 0x25804200, .norP⟩,
   ⟨0xFFF0C210, 0x25804210, .nandP⟩,
   ⟨0xFFF0C210, 0x25404000, .andsP⟩,
   ⟨0xFFF0C210, 0x25404010, .bicsP⟩,
   ⟨0xFFF0C210, 0x25404200, .eorsP⟩,
   ⟨0xFFF0C210, 0x25C04000, .orrsP⟩,
   ⟨0xFFF0C210, 0x25C04010, .ornsP⟩,
   ⟨0xFFF0C210, 0x25C04200, .norsP⟩,
   ⟨0xFFF0C210, 0x25C04210, .nandsP⟩,
   ⟨0xFFF0C210, 0x2500C000, .brkpa⟩,
   ⟨0xFFF0C210, 0x2500C010, .brkpb⟩,
   ⟨0xFFF0C210, 0x2540C000, .brkpas⟩,
   ⟨0xFFF0C210, 0x2540C010, .brkpbs⟩,
   ⟨0xFFFFC200, 0x25104000, .brka⟩,
   ⟨0xFFFFC210, 0x25504000, .brkas⟩,
   ⟨0xFFFFC200, 0x25904000, .brkb⟩,
   ⟨0xFFFFC210, 0x25D04000, .brkbs⟩,
   ⟨0xFFFFC210, 0x25184000, .brkn⟩,
   ⟨0xFFFFC210, 0x25584000, .brkns⟩,
   ⟨0xFF3FFC10, 0x2518E000, .ptrue⟩,
   ⟨0xFF3FFC10, 0x2519E000, .ptrues⟩,
   ⟨0xFFFFFFF0, 0x2518E400, .pfalse⟩,
   ⟨0xFFFFC21F, 0x2550C000, .ptest⟩,
   ⟨0xFFFFFE10, 0x2558C000, .pfirst⟩,
   ⟨0xFF3FFE10, 0x2519C400, .pnext⟩,
   ⟨0xFFFFFFF0, 0x2519F000, .rdffrUnpred⟩,
   ⟨0xFFFFFE10, 0x2518F000, .rdffrPred⟩,
   ⟨0xFFFFFE10, 0x2558F000, .rdffrsPred⟩,
   ⟨0xFFFFFFFF, 0x252C9000, .setffr⟩,
   ⟨0xFFFFFE1F, 0x25289000, .wrffr⟩]

/-- The patterns of the rows of 46_loadstore_contiguous.md. -/
def patternsContiguousMemory : List Pattern :=
  [⟨0xFFE0E000, 0xA4004000, .ld1bSs⟩,
   ⟨0xFFE0E000, 0xA4204000, .ld1bSs⟩,
   ⟨0xFFE0E000, 0xA4404000, .ld1bSs⟩,
   ⟨0xFFE0E000, 0xA4604000, .ld1bSs⟩,
   ⟨0xFFF0E000, 0xA400A000, .ld1bSi⟩,
   ⟨0xFFF0E000, 0xA420A000, .ld1bSi⟩,
   ⟨0xFFF0E000, 0xA440A000, .ld1bSi⟩,
   ⟨0xFFF0E000, 0xA460A000, .ld1bSi⟩,
   ⟨0xFFE0E000, 0xA4804000, .ld1swSs⟩,
   ⟨0xFFF0E000, 0xA480A000, .ld1swSi⟩,
   ⟨0xFFE0E000, 0xA4A04000, .ld1hSs⟩,
   ⟨0xFFE0E000, 0xA4C04000, .ld1hSs⟩,
   ⟨0xFFE0E000, 0xA4E04000, .ld1hSs⟩,
   ⟨0xFFF0E000, 0xA4A0A000, .ld1hSi⟩,
   ⟨0xFFF0E000, 0xA4C0A000, .ld1hSi⟩,
   ⟨0xFFF0E000, 0xA4E0A000, .ld1hSi⟩,
   ⟨0xFFE0E000, 0xA5204000, .ld1shSs⟩,
   ⟨0xFFE0E000, 0xA5004000, .ld1shSs⟩,
   ⟨0xFFF0E000, 0xA520A000, .ld1shSi⟩,
   ⟨0xFFF0E000, 0xA500A000, .ld1shSi⟩,
   ⟨0xFFE0E000, 0xA5404000, .ld1wSs⟩,
   ⟨0xFFE0E000, 0xA5604000, .ld1wSs⟩,
   ⟨0xFFF0E000, 0xA540A000, .ld1wSi⟩,
   ⟨0xFFF0E000, 0xA560A000, .ld1wSi⟩,
   ⟨0xFFE0E000, 0xA5C04000, .ld1sbSs⟩,
   ⟨0xFFE0E000, 0xA5A04000, .ld1sbSs⟩,
   ⟨0xFFE0E000, 0xA5804000, .ld1sbSs⟩,
   ⟨0xFFF0E000, 0xA5C0A000, .ld1sbSi⟩,
   ⟨0xFFF0E000, 0xA5A0A000, .ld1sbSi⟩,
   ⟨0xFFF0E000, 0xA580A000, .ld1sbSi⟩,
   ⟨0xFFE0E000, 0xA5E04000, .ld1dSs⟩,
   ⟨0xFFF0E000, 0xA5E0A000, .ld1dSi⟩,
   ⟨0xFF80E000, 0xE4004000, .st1bSs⟩,
   ⟨0xFF90E000, 0xE400E000, .st1bSi⟩,
   ⟨0xFF80E000, 0xE4804000, .st1hSs⟩,
   ⟨0xFF90E000, 0xE480E000, .st1hSi⟩,
   ⟨0xFF80E000, 0xE5004000, .st1wSs⟩,
   ⟨0xFF90E000, 0xE500E000, .st1wSi⟩,
   ⟨0xFF80E000, 0xE5804000, .st1dSs⟩,
   ⟨0xFF90E000, 0xE580E000, .st1dSi⟩]

/-- The patterns of the rows of 46_loadstore_structured_ld.md. -/
def patternsStructuredLoad : List Pattern :=
  [⟨0xFFE0E000, 0xA420C000, .ld2bSs⟩,
   ⟨0xFFF0E000, 0xA420E000, .ld2bSi⟩,
   ⟨0xFFE0E000, 0xA4A0C000, .ld2hSs⟩,
   ⟨0xFFF0E000, 0xA4A0E000, .ld2hSi⟩,
   ⟨0xFFE0E000, 0xA520C000, .ld2wSs⟩,
   ⟨0xFFF0E000, 0xA520E000, .ld2wSi⟩,
   ⟨0xFFE0E000, 0xA5A0C000, .ld2dSs⟩,
   ⟨0xFFF0E000, 0xA5A0E000, .ld2dSi⟩,
   ⟨0xFFE0E000, 0xA440C000, .ld3bSs⟩,
   ⟨0xFFF0E000, 0xA440E000, .ld3bSi⟩,
   ⟨0xFFE0E000, 0xA4C0C000, .ld3hSs⟩,
   ⟨0xFFF0E000, 0xA4C0E000, .ld3hSi⟩,
   ⟨0xFFE0E000, 0xA540C000, .ld3wSs⟩,
   ⟨0xFFF0E000, 0xA540E000, .ld3wSi⟩,
   ⟨0xFFE0E000, 0xA5C0C000, .ld3dSs⟩,
   ⟨0xFFF0E000, 0xA5C0E000, .ld3dSi⟩,
   ⟨0xFFE0E000, 0xA460C000, .ld4bSs⟩,
   ⟨0xFFF0E000, 0xA460E000, .ld4bSi⟩,
   ⟨0xFFE0E000, 0xA4E0C000, .ld4hSs⟩,
   ⟨0xFFF0E000, 0xA4E0E000, .ld4hSi⟩,
   ⟨0xFFE0E000, 0xA560C000, .ld4wSs⟩,
   ⟨0xFFF0E000, 0xA560E000, .ld4wSi⟩,
   ⟨0xFFE0E000, 0xA5E0C000, .ld4dSs⟩,
   ⟨0xFFF0E000, 0xA5E0E000, .ld4dSi⟩]

/-- The patterns of the rows of 46_loadstore_structured_st.md. -/
def patternsStructuredStore : List Pattern :=
  [⟨0xFFE0E000, 0xE4206000, .st2bSs⟩,
   ⟨0xFFF0E000, 0xE430E000, .st2bSi⟩,
   ⟨0xFFE0E000, 0xE4A06000, .st2hSs⟩,
   ⟨0xFFF0E000, 0xE4B0E000, .st2hSi⟩,
   ⟨0xFFE0E000, 0xE5206000, .st2wSs⟩,
   ⟨0xFFF0E000, 0xE530E000, .st2wSi⟩,
   ⟨0xFFE0E000, 0xE5A06000, .st2dSs⟩,
   ⟨0xFFF0E000, 0xE5B0E000, .st2dSi⟩,
   ⟨0xFFE0E000, 0xE4406000, .st3bSs⟩,
   ⟨0xFFF0E000, 0xE450E000, .st3bSi⟩,
   ⟨0xFFE0E000, 0xE4C06000, .st3hSs⟩,
   ⟨0xFFF0E000, 0xE4D0E000, .st3hSi⟩,
   ⟨0xFFE0E000, 0xE5406000, .st3wSs⟩,
   ⟨0xFFF0E000, 0xE550E000, .st3wSi⟩,
   ⟨0xFFE0E000, 0xE5C06000, .st3dSs⟩,
   ⟨0xFFF0E000, 0xE5D0E000, .st3dSi⟩,
   ⟨0xFFE0E000, 0xE4606000, .st4bSs⟩,
   ⟨0xFFF0E000, 0xE470E000, .st4bSi⟩,
   ⟨0xFFE0E000, 0xE4E06000, .st4hSs⟩,
   ⟨0xFFF0E000, 0xE4F0E000, .st4hSi⟩,
   ⟨0xFFE0E000, 0xE5606000, .st4wSs⟩,
   ⟨0xFFF0E000, 0xE570E000, .st4wSi⟩,
   ⟨0xFFE0E000, 0xE5E06000, .st4dSs⟩,
   ⟨0xFFF0E000, 0xE5F0E000, .st4dSi⟩]

/-- The patterns of the rows of 47_shift.md. -/
def patternsShift : List Pattern :=
  [⟨0xFF3FE000, 0x04008000, .asrImmPred⟩,
   ⟨0xFF3FE000, 0x04018000, .lsrImmPred⟩,
   ⟨0xFF3FE000, 0x04038000, .lslImmPred⟩,
   ⟨0xFF3FE000, 0x04048000, .asrdImmPred⟩,
   ⟨0xFF3FE000, 0x04068000, .sqshlImmPred⟩,
   ⟨0xFF3FE000, 0x04078000, .uqshlImmPred⟩,
   ⟨0xFF3FE000, 0x040C8000, .srshrImmPred⟩,
   ⟨0xFF3FE000, 0x040D8000, .urshrImmPred⟩,
   ⟨0xFF3FE000, 0x040F8000, .sqshluImmPred⟩,
   ⟨0xFF20FC00, 0x04209000, .asrImmUnpred⟩,
   ⟨0xFF20FC00, 0x04209400, .lsrImmUnpred⟩,
   ⟨0xFF20FC00, 0x04209C00, .lslImmUnpred⟩,
   ⟨0xFF3FE000, 0x04108000, .asrVecPred⟩,
   ⟨0xFF3FE000, 0x04118000, .lsrVecPred⟩,
   ⟨0xFF3FE000, 0x04138000, .lslVecPred⟩,
   ⟨0xFF3FE000, 0x04148000, .asrrVecPred⟩,
   ⟨0xFF3FE000, 0x04158000, .lsrrVecPred⟩,
   ⟨0xFF3FE000, 0x04178000, .lslrVecPred⟩,
   ⟨0xFF3FE000, 0x04188000, .asrWidePred⟩,
   ⟨0xFF3FE000, 0x04198000, .lsrWidePred⟩,
   ⟨0xFF3FE000, 0x041B8000, .lslWidePred⟩,
   ⟨0xFF20FC00, 0x04208000, .asrWideUnpred⟩,
   ⟨0xFF20FC00, 0x04208400, .lsrWideUnpred⟩,
   ⟨0xFF20FC00, 0x04208C00, .lslWideUnpred⟩]

/-- The patterns of the rows of 48_widen_narrow.md. -/
def patternsWidenNarrow : List Pattern :=
  [⟨0xFF20FC00, 0x45000000, .saddlb⟩,
   ⟨0xFF20FC00, 0x45000400, .saddlt⟩,
   ⟨0xFF20FC00, 0x45000800, .uaddlb⟩,
   ⟨0xFF20FC00, 0x45000C00, .uaddlt⟩,
   ⟨0xFF20FC00, 0x45001000, .ssublb⟩,
   ⟨0xFF20FC00, 0x45001400, .ssublt⟩,
   ⟨0xFF20FC00, 0x45001800, .usublb⟩,
   ⟨0xFF20FC00, 0x45001C00, .usublt⟩,
   ⟨0xFF20FC00, 0x45003000, .sabdlb⟩,
   ⟨0xFF20FC00, 0x45003400, .sabdlt⟩,
   ⟨0xFF20FC00, 0x45003800, .uabdlb⟩,
   ⟨0xFF20FC00, 0x45003C00, .uabdlt⟩,
   ⟨0xFFA0FC00, 0x4500A000, .sshllb⟩,
   ⟨0xFFA0FC00, 0x4500A400, .sshllt⟩,
   ⟨0xFFA0FC00, 0x4500A800, .ushllb⟩,
   ⟨0xFFA0FC00, 0x4500AC00, .ushllt⟩,
   ⟨0xFF20FC00, 0x45206000, .addhnb⟩,
   ⟨0xFF20FC00, 0x45206400, .addhnt⟩,
   ⟨0xFF20FC00, 0x45206800, .raddhnb⟩,
   ⟨0xFF20FC00, 0x45206C00, .raddhnt⟩,
   ⟨0xFF20FC00, 0x45207000, .subhnb⟩,
   ⟨0xFF20FC00, 0x45207400, .subhnt⟩,
   ⟨0xFF20FC00, 0x45207800, .rsubhnb⟩,
   ⟨0xFF20FC00, 0x45207C00, .rsubhnt⟩,
   ⟨0xFFA0FC00, 0x45200000, .sqshrunb⟩,
   ⟨0xFFA0FC00, 0x45200400, .sqshrunt⟩,
   ⟨0xFFA0FC00, 0x45200800, .sqrshrunb⟩,
   ⟨0xFFA0FC00, 0x45200C00, .sqrshrunt⟩,
   ⟨0xFFA0FC00, 0x45201000, .shrnb⟩,
   ⟨0xFFA0FC00, 0x45201400, .shrnt⟩,
   ⟨0xFFA0FC00, 0x45201800, .rshrnb⟩,
   ⟨0xFFA0FC00, 0x45201C00, .rshrnt⟩,
   ⟨0xFFA0FC00, 0x45202000, .sqshrnb⟩,
   ⟨0xFFA0FC00, 0x45202400, .sqshrnt⟩,
   ⟨0xFFA0FC00, 0x45202800, .sqrshrnb⟩,
   ⟨0xFFA0FC00, 0x45202C00, .sqrshrnt⟩,
   ⟨0xFFA0FC00, 0x45203000, .uqshrnb⟩,
   ⟨0xFFA0FC00, 0x45203400, .uqshrnt⟩,
   ⟨0xFFA0FC00, 0x45203800, .uqrshrnb⟩,
   ⟨0xFFA0FC00, 0x45203C00, .uqrshrnt⟩,
   ⟨0xFF20FC00, 0x4500E000, .ssra⟩,
   ⟨0xFF20FC00, 0x4500E400, .usra⟩,
   ⟨0xFF20FC00, 0x4500E800, .srsra⟩,
   ⟨0xFF20FC00, 0x4500EC00, .ursra⟩,
   ⟨0xFF20FC00, 0x4500F000, .sri⟩,
   ⟨0xFF20FC00, 0x4500F400, .sli⟩]

/-- The patterns of the rows of 49_fp_index_stack_misc.md. -/
def patternsFloatIndexStack : List Pattern :=
  [⟨0xFF20FC00, 0x65000000, .faddUnpred⟩,
   ⟨0xFF20FC00, 0x65000400, .fsubUnpred⟩,
   ⟨0xFF20FC00, 0x65000800, .fmulUnpred⟩,
   ⟨0xFF20FC00, 0x65000C00, .ftsmulUnpred⟩,
   ⟨0xFF20FC00, 0x65001800, .frecpsUnpred⟩,
   ⟨0xFF20FC00, 0x65001C00, .frsqrtsUnpred⟩,
   ⟨0xFF3FE000, 0x65008000, .faddPred⟩,
   ⟨0xFF3FE000, 0x65018000, .fsubPred⟩,
   ⟨0xFF3FE000, 0x65028000, .fmulPred⟩,
   ⟨0xFF3FE000, 0x65038000, .fsubrPred⟩,
   ⟨0xFF3FE000, 0x65048000, .fmaxnmPred⟩,
   ⟨0xFF3FE000, 0x65058000, .fminnmPred⟩,
   ⟨0xFF3FE000, 0x65068000, .fmaxPred⟩,
   ⟨0xFF3FE000, 0x65078000, .fminPred⟩,
   ⟨0xFF3FE000, 0x65088000, .fabdPred⟩,
   ⟨0xFF3FE000, 0x65098000, .fscalePred⟩,
   ⟨0xFF3FE000, 0x650A8000, .fmulxPred⟩,
   ⟨0xFF3FE000, 0x650C8000, .fdivrPred⟩,
   ⟨0xFF3FE000, 0x650D8000, .fdivPred⟩,
   ⟨0xFF20E010, 0x65004000, .fcmgeVec⟩,
   ⟨0xFF20E010, 0x65004010, .fcmgtVec⟩,
   ⟨0xFF20E010, 0x65006000, .fcmeqVec⟩,
   ⟨0xFF20E010, 0x65006010, .fcmneVec⟩,
   ⟨0xFF20E010, 0x6500C000, .fcmuoVec⟩,
   ⟨0xFF20E010, 0x6500C010, .facgeVec⟩,
   ⟨0xFF20E010, 0x6500E010, .facgtVec⟩,
   ⟨0xFF3CE000, 0x6508A000, .fcvt⟩,
   ⟨0xFF3EE000, 0x64008000, .fcadd⟩,
   ⟨0xFF208000, 0x64000000, .fcmla⟩,
   ⟨0xFF20FC00, 0x04204000, .indexIi⟩,
   ⟨0xFF20FC00, 0x04204400, .indexRi⟩,
   ⟨0xFF20FC00, 0x04204800, .indexIr⟩,
   ⟨0xFF20FC00, 0x04204C00, .indexRr⟩,
   ⟨0xFFE0F800, 0x04205000, .addvl⟩,
   ⟨0xFFE0F800, 0x04605000, .addpl⟩,
   ⟨0xFFFFF800, 0x04BF5000, .rdvl⟩,
   ⟨0xFF20FC00, 0x0420B000, .ftssel⟩,
   ⟨0xFF3FFC00, 0x0420B800, .fexpa⟩,
   ⟨0xFFFFFC00, 0x0420BC00, .movprfxUnpred⟩,
   ⟨0xFF3EE000, 0x04102000, .movprfxPred⟩]

/-- Every pattern of the table, in the order of its rows. -/
def patterns : List Pattern :=
  patternsIntegerArith
  ++ patternsCompare
  ++ patternsPermute
  ++ patternsMulDivReduction
  ++ patternsPredicate
  ++ patternsContiguousMemory
  ++ patternsStructuredLoad
  ++ patternsStructuredStore
  ++ patternsShift
  ++ patternsWidenNarrow
  ++ patternsFloatIndexStack

/-- The operation whose fixed bits the word has (R79). -/
def identify (w : Word) : Option OpCode :=
  (patterns.find? (fun p => w &&& p.mask == p.value)).map Pattern.op

/-- Why a word names no request (R86). -/
inductive DecodeError where
  /-- Fewer than four bytes. Raised by `decodeBytes`; safe. -/
  | truncated
  /-- No row has the word's fixed bits (R86, U19). Raised by `decodeWord`; safe. -/
  | noOperation
  deriving DecidableEq, Repr

/-- The request of the operation, read back from the word's fields. An operand that has no field of its
own is the one its relation fixes: the first source of a destructive form (R169), the later registers
of a sequence (R170). A field that no accepted request fills so (a size code outside the legal set, a
shift triple or an index with no size) reads as an illegal operand: the request read back is then not
`wellFormed`, the block raises on it, and the word is no word of the block (R83, R86). A polymorphic name
is no row and has no word of its own (R318). -/
def build (op : OpCode) (w : Word) : Option Instr :=
  match op with
  | .addUnpred => some (.addUnpred (sizeOfCode (w.extractLsb' 22 2)) (w.extractLsb' 0 5) (w.extractLsb' 5 5) (w.extractLsb' 16 5))
  | .subUnpred => some (.subUnpred (sizeOfCode (w.extractLsb' 22 2)) (w.extractLsb' 0 5) (w.extractLsb' 5 5) (w.extractLsb' 16 5))
  | .sqaddUnpred => some (.sqaddUnpred (sizeOfCode (w.extractLsb' 22 2)) (w.extractLsb' 0 5) (w.extractLsb' 5 5) (w.extractLsb' 16 5))
  | .uqaddUnpred => some (.uqaddUnpred (sizeOfCode (w.extractLsb' 22 2)) (w.extractLsb' 0 5) (w.extractLsb' 5 5) (w.extractLsb' 16 5))
  | .sqsubUnpred => some (.sqsubUnpred (sizeOfCode (w.extractLsb' 22 2)) (w.extractLsb' 0 5) (w.extractLsb' 5 5) (w.extractLsb' 16 5))
  | .uqsubUnpred => some (.uqsubUnpred (sizeOfCode (w.extractLsb' 22 2)) (w.extractLsb' 0 5) (w.extractLsb' 5 5) (w.extractLsb' 16 5))
  | .addPred => some (.addPred (sizeOfCode (w.extractLsb' 22 2)) (w.extractLsb' 0 5) ⟨(w.extractLsb' 10 3).setWidth 4, Style.merging⟩ (w.extractLsb' 0 5) (w.extractLsb' 5 5))
  | .subPred => some (.subPred (sizeOfCode (w.extractLsb' 22 2)) (w.extractLsb' 0 5) ⟨(w.extractLsb' 10 3).setWidth 4, Style.merging⟩ (w.extractLsb' 0 5) (w.extractLsb' 5 5))
  | .subrPred => some (.subrPred (sizeOfCode (w.extractLsb' 22 2)) (w.extractLsb' 0 5) ⟨(w.extractLsb' 10 3).setWidth 4, Style.merging⟩ (w.extractLsb' 0 5) (w.extractLsb' 5 5))
  | .smaxPred => some (.smaxPred (sizeOfCode (w.extractLsb' 22 2)) (w.extractLsb' 0 5) ⟨(w.extractLsb' 10 3).setWidth 4, Style.merging⟩ (w.extractLsb' 0 5) (w.extractLsb' 5 5))
  | .umaxPred => some (.umaxPred (sizeOfCode (w.extractLsb' 22 2)) (w.extractLsb' 0 5) ⟨(w.extractLsb' 10 3).setWidth 4, Style.merging⟩ (w.extractLsb' 0 5) (w.extractLsb' 5 5))
  | .sminPred => some (.sminPred (sizeOfCode (w.extractLsb' 22 2)) (w.extractLsb' 0 5) ⟨(w.extractLsb' 10 3).setWidth 4, Style.merging⟩ (w.extractLsb' 0 5) (w.extractLsb' 5 5))
  | .uminPred => some (.uminPred (sizeOfCode (w.extractLsb' 22 2)) (w.extractLsb' 0 5) ⟨(w.extractLsb' 10 3).setWidth 4, Style.merging⟩ (w.extractLsb' 0 5) (w.extractLsb' 5 5))
  | .sabdPred => some (.sabdPred (sizeOfCode (w.extractLsb' 22 2)) (w.extractLsb' 0 5) ⟨(w.extractLsb' 10 3).setWidth 4, Style.merging⟩ (w.extractLsb' 0 5) (w.extractLsb' 5 5))
  | .uabdPred => some (.uabdPred (sizeOfCode (w.extractLsb' 22 2)) (w.extractLsb' 0 5) ⟨(w.extractLsb' 10 3).setWidth 4, Style.merging⟩ (w.extractLsb' 0 5) (w.extractLsb' 5 5))
  | .orrPred => some (.orrPred (sizeOfCode (w.extractLsb' 22 2)) (w.extractLsb' 0 5) ⟨(w.extractLsb' 10 3).setWidth 4, Style.merging⟩ (w.extractLsb' 0 5) (w.extractLsb' 5 5))
  | .eorPred => some (.eorPred (sizeOfCode (w.extractLsb' 22 2)) (w.extractLsb' 0 5) ⟨(w.extractLsb' 10 3).setWidth 4, Style.merging⟩ (w.extractLsb' 0 5) (w.extractLsb' 5 5))
  | .andPred => some (.andPred (sizeOfCode (w.extractLsb' 22 2)) (w.extractLsb' 0 5) ⟨(w.extractLsb' 10 3).setWidth 4, Style.merging⟩ (w.extractLsb' 0 5) (w.extractLsb' 5 5))
  | .bicPred => some (.bicPred (sizeOfCode (w.extractLsb' 22 2)) (w.extractLsb' 0 5) ⟨(w.extractLsb' 10 3).setWidth 4, Style.merging⟩ (w.extractLsb' 0 5) (w.extractLsb' 5 5))
  | .andUnpred => some (.andUnpred (w.extractLsb' 0 5) (w.extractLsb' 5 5) (w.extractLsb' 16 5))
  | .orrUnpred => some (.orrUnpred (w.extractLsb' 0 5) (w.extractLsb' 5 5) (w.extractLsb' 16 5))
  | .eorUnpred => some (.eorUnpred (w.extractLsb' 0 5) (w.extractLsb' 5 5) (w.extractLsb' 16 5))
  | .bicUnpred => some (.bicUnpred (w.extractLsb' 0 5) (w.extractLsb' 5 5) (w.extractLsb' 16 5))
  | .cadd => some (.cadd (sizeOfCode (w.extractLsb' 22 2)) (w.extractLsb' 0 5) (w.extractLsb' 0 5) (w.extractLsb' 5 5) (90 + 180 * (w.extractLsb' 10 1).setWidth 32))
  | .sqcadd => some (.sqcadd (sizeOfCode (w.extractLsb' 22 2)) (w.extractLsb' 0 5) (w.extractLsb' 0 5) (w.extractLsb' 5 5) (90 + 180 * (w.extractLsb' 10 1).setWidth 32))
  | .cmla => some (.cmla (sizeOfCode (w.extractLsb' 22 2)) (w.extractLsb' 0 5) (w.extractLsb' 5 5) (w.extractLsb' 16 5) (90 * (w.extractLsb' 10 2).setWidth 32))
  | .cmpgeImm => some (.cmpgeImm (sizeOfCode (w.extractLsb' 22 2)) (w.extractLsb' 0 4) ⟨(w.extractLsb' 10 3).setWidth 4, Style.zeroing⟩ (w.extractLsb' 5 5) ((w.extractLsb' 16 5).signExtend 32))
  | .cmpgtImm => some (.cmpgtImm (sizeOfCode (w.extractLsb' 22 2)) (w.extractLsb' 0 4) ⟨(w.extractLsb' 10 3).setWidth 4, Style.zeroing⟩ (w.extractLsb' 5 5) ((w.extractLsb' 16 5).signExtend 32))
  | .cmpltImm => some (.cmpltImm (sizeOfCode (w.extractLsb' 22 2)) (w.extractLsb' 0 4) ⟨(w.extractLsb' 10 3).setWidth 4, Style.zeroing⟩ (w.extractLsb' 5 5) ((w.extractLsb' 16 5).signExtend 32))
  | .cmpleImm => some (.cmpleImm (sizeOfCode (w.extractLsb' 22 2)) (w.extractLsb' 0 4) ⟨(w.extractLsb' 10 3).setWidth 4, Style.zeroing⟩ (w.extractLsb' 5 5) ((w.extractLsb' 16 5).signExtend 32))
  | .cmpeqImm => some (.cmpeqImm (sizeOfCode (w.extractLsb' 22 2)) (w.extractLsb' 0 4) ⟨(w.extractLsb' 10 3).setWidth 4, Style.zeroing⟩ (w.extractLsb' 5 5) ((w.extractLsb' 16 5).signExtend 32))
  | .cmpneImm => some (.cmpneImm (sizeOfCode (w.extractLsb' 22 2)) (w.extractLsb' 0 4) ⟨(w.extractLsb' 10 3).setWidth 4, Style.zeroing⟩ (w.extractLsb' 5 5) ((w.extractLsb' 16 5).signExtend 32))
  | .cmphsImm => some (.cmphsImm (sizeOfCode (w.extractLsb' 22 2)) (w.extractLsb' 0 4) ⟨(w.extractLsb' 10 3).setWidth 4, Style.zeroing⟩ (w.extractLsb' 5 5) ((w.extractLsb' 14 7).setWidth 32))
  | .cmphiImm => some (.cmphiImm (sizeOfCode (w.extractLsb' 22 2)) (w.extractLsb' 0 4) ⟨(w.extractLsb' 10 3).setWidth 4, Style.zeroing⟩ (w.extractLsb' 5 5) ((w.extractLsb' 14 7).setWidth 32))
  | .cmploImm => some (.cmploImm (sizeOfCode (w.extractLsb' 22 2)) (w.extractLsb' 0 4) ⟨(w.extractLsb' 10 3).setWidth 4, Style.zeroing⟩ (w.extractLsb' 5 5) ((w.extractLsb' 14 7).setWidth 32))
  | .cmplsImm => some (.cmplsImm (sizeOfCode (w.extractLsb' 22 2)) (w.extractLsb' 0 4) ⟨(w.extractLsb' 10 3).setWidth 4, Style.zeroing⟩ (w.extractLsb' 5 5) ((w.extractLsb' 14 7).setWidth 32))
  | .cmphsVec => some (.cmphsVec (sizeOfCode (w.extractLsb' 22 2)) (w.extractLsb' 0 4) ⟨(w.extractLsb' 10 3).setWidth 4, Style.zeroing⟩ (w.extractLsb' 5 5) (w.extractLsb' 16 5))
  | .cmphiVec => some (.cmphiVec (sizeOfCode (w.extractLsb' 22 2)) (w.extractLsb' 0 4) ⟨(w.extractLsb' 10 3).setWidth 4, Style.zeroing⟩ (w.extractLsb' 5 5) (w.extractLsb' 16 5))
  | .cmpgeVec => some (.cmpgeVec (sizeOfCode (w.extractLsb' 22 2)) (w.extractLsb' 0 4) ⟨(w.extractLsb' 10 3).setWidth 4, Style.zeroing⟩ (w.extractLsb' 5 5) (w.extractLsb' 16 5))
  | .cmpgtVec => some (.cmpgtVec (sizeOfCode (w.extractLsb' 22 2)) (w.extractLsb' 0 4) ⟨(w.extractLsb' 10 3).setWidth 4, Style.zeroing⟩ (w.extractLsb' 5 5) (w.extractLsb' 16 5))
  | .cmpeqVec => some (.cmpeqVec (sizeOfCode (w.extractLsb' 22 2)) (w.extractLsb' 0 4) ⟨(w.extractLsb' 10 3).setWidth 4, Style.zeroing⟩ (w.extractLsb' 5 5) (w.extractLsb' 16 5))
  | .cmpneVec => some (.cmpneVec (sizeOfCode (w.extractLsb' 22 2)) (w.extractLsb' 0 4) ⟨(w.extractLsb' 10 3).setWidth 4, Style.zeroing⟩ (w.extractLsb' 5 5) (w.extractLsb' 16 5))
  | .zip1 => some (.zip1 (sizeOfCode (w.extractLsb' 22 2)) (w.extractLsb' 0 5) (w.extractLsb' 5 5) (w.extractLsb' 16 5))
  | .zip2 => some (.zip2 (sizeOfCode (w.extractLsb' 22 2)) (w.extractLsb' 0 5) (w.extractLsb' 5 5) (w.extractLsb' 16 5))
  | .uzp1 => some (.uzp1 (sizeOfCode (w.extractLsb' 22 2)) (w.extractLsb' 0 5) (w.extractLsb' 5 5) (w.extractLsb' 16 5))
  | .uzp2 => some (.uzp2 (sizeOfCode (w.extractLsb' 22 2)) (w.extractLsb' 0 5) (w.extractLsb' 5 5) (w.extractLsb' 16 5))
  | .trn1 => some (.trn1 (sizeOfCode (w.extractLsb' 22 2)) (w.extractLsb' 0 5) (w.extractLsb' 5 5) (w.extractLsb' 16 5))
  | .trn2 => some (.trn2 (sizeOfCode (w.extractLsb' 22 2)) (w.extractLsb' 0 5) (w.extractLsb' 5 5) (w.extractLsb' 16 5))
  | .tbl => some (.tbl (sizeOfCode (w.extractLsb' 22 2)) (w.extractLsb' 0 5) (w.extractLsb' 5 5) (w.extractLsb' 16 5))
  | .tbx => some (.tbx (sizeOfCode (w.extractLsb' 22 2)) (w.extractLsb' 0 5) (w.extractLsb' 5 5) (w.extractLsb' 16 5))
  | .dupIndexed => let v7 := w.extractLsb' 22 2 ++ w.extractLsb' 16 5; some (.dupIndexed (indexedSize v7) (w.extractLsb' 0 5) (w.extractLsb' 5 5) (indexedIndex v7))
  | .extDestructive => some (.extDestructive (w.extractLsb' 0 5) (w.extractLsb' 0 5) (w.extractLsb' 5 5) ((w.extractLsb' 16 5 ++ w.extractLsb' 10 3).setWidth 32))
  | .extConstructive => some (.extConstructive (w.extractLsb' 0 5) (w.extractLsb' 5 5) (w.extractLsb' 5 5 + 1) ((w.extractLsb' 16 5 ++ w.extractLsb' 10 3).setWidth 32))
  | .spliceDestructive => some (.spliceDestructive (sizeOfCode (w.extractLsb' 22 2)) (w.extractLsb' 0 5) ⟨(w.extractLsb' 10 3).setWidth 4, Style.plain⟩ (w.extractLsb' 0 5) (w.extractLsb' 5 5))
  | .spliceConstructive => some (.spliceConstructive (sizeOfCode (w.extractLsb' 22 2)) (w.extractLsb' 0 5) ⟨(w.extractLsb' 10 3).setWidth 4, Style.plain⟩ (w.extractLsb' 5 5) (w.extractLsb' 5 5 + 1))
  | .mulPred => some (.mulPred (sizeOfCode (w.extractLsb' 22 2)) (w.extractLsb' 0 5) ⟨(w.extractLsb' 10 3).setWidth 4, Style.merging⟩ (w.extractLsb' 0 5) (w.extractLsb' 5 5))
  | .smulhPred => some (.smulhPred (sizeOfCode (w.extractLsb' 22 2)) (w.extractLsb' 0 5) ⟨(w.extractLsb' 10 3).setWidth 4, Style.merging⟩ (w.extractLsb' 0 5) (w.extractLsb' 5 5))
  | .umulhPred => some (.umulhPred (sizeOfCode (w.extractLsb' 22 2)) (w.extractLsb' 0 5) ⟨(w.extractLsb' 10 3).setWidth 4, Style.merging⟩ (w.extractLsb' 0 5) (w.extractLsb' 5 5))
  | .sdivPred => some (.sdivPred (sizeOfCode (w.extractLsb' 22 2)) (w.extractLsb' 0 5) ⟨(w.extractLsb' 10 3).setWidth 4, Style.merging⟩ (w.extractLsb' 0 5) (w.extractLsb' 5 5))
  | .udivPred => some (.udivPred (sizeOfCode (w.extractLsb' 22 2)) (w.extractLsb' 0 5) ⟨(w.extractLsb' 10 3).setWidth 4, Style.merging⟩ (w.extractLsb' 0 5) (w.extractLsb' 5 5))
  | .sdivrPred => some (.sdivrPred (sizeOfCode (w.extractLsb' 22 2)) (w.extractLsb' 0 5) ⟨(w.extractLsb' 10 3).setWidth 4, Style.merging⟩ (w.extractLsb' 0 5) (w.extractLsb' 5 5))
  | .udivrPred => some (.udivrPred (sizeOfCode (w.extractLsb' 22 2)) (w.extractLsb' 0 5) ⟨(w.extractLsb' 10 3).setWidth 4, Style.merging⟩ (w.extractLsb' 0 5) (w.extractLsb' 5 5))
  | .saddv => some (.saddv (sizeOfCode (w.extractLsb' 22 2)) (w.extractLsb' 0 5) ⟨(w.extractLsb' 10 3).setWidth 4, Style.plain⟩ (w.extractLsb' 5 5))
  | .uaddv => some (.uaddv (sizeOfCode (w.extractLsb' 22 2)) (w.extractLsb' 0 5) ⟨(w.extractLsb' 10 3).setWidth 4, Style.plain⟩ (w.extractLsb' 5 5))
  | .smaxv => some (.smaxv (sizeOfCode (w.extractLsb' 22 2)) (w.extractLsb' 0 5) ⟨(w.extractLsb' 10 3).setWidth 4, Style.plain⟩ (w.extractLsb' 5 5))
  | .umaxv => some (.umaxv (sizeOfCode (w.extractLsb' 22 2)) (w.extractLsb' 0 5) ⟨(w.extractLsb' 10 3).setWidth 4, Style.plain⟩ (w.extractLsb' 5 5))
  | .sminv => some (.sminv (sizeOfCode (w.extractLsb' 22 2)) (w.extractLsb' 0 5) ⟨(w.extractLsb' 10 3).setWidth 4, Style.plain⟩ (w.extractLsb' 5 5))
  | .uminv => some (.uminv (sizeOfCode (w.extractLsb' 22 2)) (w.extractLsb' 0 5) ⟨(w.extractLsb' 10 3).setWidth 4, Style.plain⟩ (w.extractLsb' 5 5))
  | .orv => some (.orv (sizeOfCode (w.extractLsb' 22 2)) (w.extractLsb' 0 5) ⟨(w.extractLsb' 10 3).setWidth 4, Style.plain⟩ (w.extractLsb' 5 5))
  | .eorv => some (.eorv (sizeOfCode (w.extractLsb' 22 2)) (w.extractLsb' 0 5) ⟨(w.extractLsb' 10 3).setWidth 4, Style.plain⟩ (w.extractLsb' 5 5))
  | .andv => some (.andv (sizeOfCode (w.extractLsb' 22 2)) (w.extractLsb' 0 5) ⟨(w.extractLsb' 10 3).setWidth 4, Style.plain⟩ (w.extractLsb' 5 5))
  | .andP => some (.andP (w.extractLsb' 0 4) ⟨w.extractLsb' 10 4, Style.zeroing⟩ (w.extractLsb' 5 4) (w.extractLsb' 16 4))
  | .bicP => some (.bicP (w.extractLsb' 0 4) ⟨w.extractLsb' 10 4, Style.zeroing⟩ (w.extractLsb' 5 4) (w.extractLsb' 16 4))
  | .eorP => some (.eorP (w.extractLsb' 0 4) ⟨w.extractLsb' 10 4, Style.zeroing⟩ (w.extractLsb' 5 4) (w.extractLsb' 16 4))
  | .selP => some (.selP (w.extractLsb' 0 4) ⟨w.extractLsb' 10 4, Style.plain⟩ (w.extractLsb' 5 4) (w.extractLsb' 16 4))
  | .orrP => some (.orrP (w.extractLsb' 0 4) ⟨w.extractLsb' 10 4, Style.zeroing⟩ (w.extractLsb' 5 4) (w.extractLsb' 16 4))
  | .ornP => some (.ornP (w.extractLsb' 0 4) ⟨w.extractLsb' 10 4, Style.zeroing⟩ (w.extractLsb' 5 4) (w.extractLsb' 16 4))
  | .norP => some (.norP (w.extractLsb' 0 4) ⟨w.extractLsb' 10 4, Style.zeroing⟩ (w.extractLsb' 5 4) (w.extractLsb' 16 4))
  | .nandP => some (.nandP (w.extractLsb' 0 4) ⟨w.extractLsb' 10 4, Style.zeroing⟩ (w.extractLsb' 5 4) (w.extractLsb' 16 4))
  | .andsP => some (.andsP (w.extractLsb' 0 4) ⟨w.extractLsb' 10 4, Style.zeroing⟩ (w.extractLsb' 5 4) (w.extractLsb' 16 4))
  | .bicsP => some (.bicsP (w.extractLsb' 0 4) ⟨w.extractLsb' 10 4, Style.zeroing⟩ (w.extractLsb' 5 4) (w.extractLsb' 16 4))
  | .eorsP => some (.eorsP (w.extractLsb' 0 4) ⟨w.extractLsb' 10 4, Style.zeroing⟩ (w.extractLsb' 5 4) (w.extractLsb' 16 4))
  | .orrsP => some (.orrsP (w.extractLsb' 0 4) ⟨w.extractLsb' 10 4, Style.zeroing⟩ (w.extractLsb' 5 4) (w.extractLsb' 16 4))
  | .ornsP => some (.ornsP (w.extractLsb' 0 4) ⟨w.extractLsb' 10 4, Style.zeroing⟩ (w.extractLsb' 5 4) (w.extractLsb' 16 4))
  | .norsP => some (.norsP (w.extractLsb' 0 4) ⟨w.extractLsb' 10 4, Style.zeroing⟩ (w.extractLsb' 5 4) (w.extractLsb' 16 4))
  | .nandsP => some (.nandsP (w.extractLsb' 0 4) ⟨w.extractLsb' 10 4, Style.zeroing⟩ (w.extractLsb' 5 4) (w.extractLsb' 16 4))
  | .brkpa => some (.brkpa (w.extractLsb' 0 4) ⟨w.extractLsb' 10 4, Style.zeroing⟩ (w.extractLsb' 5 4) (w.extractLsb' 16 4))
  | .brkpb => some (.brkpb (w.extractLsb' 0 4) ⟨w.extractLsb' 10 4, Style.zeroing⟩ (w.extractLsb' 5 4) (w.extractLsb' 16 4))
  | .brkpas => some (.brkpas (w.extractLsb' 0 4) ⟨w.extractLsb' 10 4, Style.zeroing⟩ (w.extractLsb' 5 4) (w.extractLsb' 16 4))
  | .brkpbs => some (.brkpbs (w.extractLsb' 0 4) ⟨w.extractLsb' 10 4, Style.zeroing⟩ (w.extractLsb' 5 4) (w.extractLsb' 16 4))
  | .brka => some (.brka (w.extractLsb' 0 4) ⟨w.extractLsb' 10 4, styleOfBit (w.extractLsb' 4 1)⟩ (w.extractLsb' 5 4))
  | .brkas => some (.brkas (w.extractLsb' 0 4) ⟨w.extractLsb' 10 4, Style.zeroing⟩ (w.extractLsb' 5 4))
  | .brkb => some (.brkb (w.extractLsb' 0 4) ⟨w.extractLsb' 10 4, styleOfBit (w.extractLsb' 4 1)⟩ (w.extractLsb' 5 4))
  | .brkbs => some (.brkbs (w.extractLsb' 0 4) ⟨w.extractLsb' 10 4, Style.zeroing⟩ (w.extractLsb' 5 4))
  | .brkn => some (.brkn (w.extractLsb' 0 4) ⟨w.extractLsb' 10 4, Style.zeroing⟩ (w.extractLsb' 5 4) (w.extractLsb' 0 4))
  | .brkns => some (.brkns (w.extractLsb' 0 4) ⟨w.extractLsb' 10 4, Style.zeroing⟩ (w.extractLsb' 5 4) (w.extractLsb' 0 4))
  | .ptrue => some (.ptrue (sizeOfCode (w.extractLsb' 22 2)) (w.extractLsb' 0 4) ((w.extractLsb' 5 5).setWidth 32))
  | .ptrues => some (.ptrues (sizeOfCode (w.extractLsb' 22 2)) (w.extractLsb' 0 4) ((w.extractLsb' 5 5).setWidth 32))
  | .pfalse => some (.pfalse (w.extractLsb' 0 4))
  | .ptest => some (.ptest ⟨w.extractLsb' 10 4, Style.plain⟩ (w.extractLsb' 5 4))
  | .pfirst => some (.pfirst (w.extractLsb' 0 4) ⟨w.extractLsb' 5 4, Style.plain⟩ (w.extractLsb' 0 4))
  | .pnext => some (.pnext (sizeOfCode (w.extractLsb' 22 2)) (w.extractLsb' 0 4) ⟨w.extractLsb' 5 4, Style.plain⟩ (w.extractLsb' 0 4))
  | .rdffrUnpred => some (.rdffrUnpred (w.extractLsb' 0 4))
  | .rdffrPred => some (.rdffrPred (w.extractLsb' 0 4) ⟨w.extractLsb' 5 4, Style.zeroing⟩)
  | .rdffrsPred => some (.rdffrsPred (w.extractLsb' 0 4) ⟨w.extractLsb' 5 4, Style.zeroing⟩)
  | .setffr => some (.setffr)
  | .wrffr => some (.wrffr (w.extractLsb' 5 4))
  | .ld1bSs => some (.ld1bSs (sizeOfCode ((w.extractLsb' 21 4).setWidth 2)) (w.extractLsb' 0 5) ⟨(w.extractLsb' 10 3).setWidth 4, Style.zeroing⟩ (w.extractLsb' 5 5) (w.extractLsb' 16 5))
  | .ld1bSi => some (.ld1bSi (sizeOfCode ((w.extractLsb' 21 4).setWidth 2)) (w.extractLsb' 0 5) ⟨(w.extractLsb' 10 3).setWidth 4, Style.zeroing⟩ (w.extractLsb' 5 5) ((w.extractLsb' 16 4).signExtend 32))
  | .ld1swSs => some (.ld1swSs 64 (w.extractLsb' 0 5) ⟨(w.extractLsb' 10 3).setWidth 4, Style.zeroing⟩ (w.extractLsb' 5 5) (w.extractLsb' 16 5))
  | .ld1swSi => some (.ld1swSi 64 (w.extractLsb' 0 5) ⟨(w.extractLsb' 10 3).setWidth 4, Style.zeroing⟩ (w.extractLsb' 5 5) ((w.extractLsb' 16 4).signExtend 32))
  | .ld1hSs => some (.ld1hSs (sizeOfCode (((w.extractLsb' 21 4) - 0b0100).setWidth 2)) (w.extractLsb' 0 5) ⟨(w.extractLsb' 10 3).setWidth 4, Style.zeroing⟩ (w.extractLsb' 5 5) (w.extractLsb' 16 5))
  | .ld1hSi => some (.ld1hSi (sizeOfCode (((w.extractLsb' 21 4) - 0b0100).setWidth 2)) (w.extractLsb' 0 5) ⟨(w.extractLsb' 10 3).setWidth 4, Style.zeroing⟩ (w.extractLsb' 5 5) ((w.extractLsb' 16 4).signExtend 32))
  | .ld1shSs => some (.ld1shSs (sizeOfCode ((0b1011 - (w.extractLsb' 21 4)).setWidth 2)) (w.extractLsb' 0 5) ⟨(w.extractLsb' 10 3).setWidth 4, Style.zeroing⟩ (w.extractLsb' 5 5) (w.extractLsb' 16 5))
  | .ld1shSi => some (.ld1shSi (sizeOfCode ((0b1011 - (w.extractLsb' 21 4)).setWidth 2)) (w.extractLsb' 0 5) ⟨(w.extractLsb' 10 3).setWidth 4, Style.zeroing⟩ (w.extractLsb' 5 5) ((w.extractLsb' 16 4).signExtend 32))
  | .ld1wSs => some (.ld1wSs (sizeOfCode (((w.extractLsb' 21 4) - 0b1000).setWidth 2)) (w.extractLsb' 0 5) ⟨(w.extractLsb' 10 3).setWidth 4, Style.zeroing⟩ (w.extractLsb' 5 5) (w.extractLsb' 16 5))
  | .ld1wSi => some (.ld1wSi (sizeOfCode (((w.extractLsb' 21 4) - 0b1000).setWidth 2)) (w.extractLsb' 0 5) ⟨(w.extractLsb' 10 3).setWidth 4, Style.zeroing⟩ (w.extractLsb' 5 5) ((w.extractLsb' 16 4).signExtend 32))
  | .ld1sbSs => some (.ld1sbSs (sizeOfCode ((0b1111 - (w.extractLsb' 21 4)).setWidth 2)) (w.extractLsb' 0 5) ⟨(w.extractLsb' 10 3).setWidth 4, Style.zeroing⟩ (w.extractLsb' 5 5) (w.extractLsb' 16 5))
  | .ld1sbSi => some (.ld1sbSi (sizeOfCode ((0b1111 - (w.extractLsb' 21 4)).setWidth 2)) (w.extractLsb' 0 5) ⟨(w.extractLsb' 10 3).setWidth 4, Style.zeroing⟩ (w.extractLsb' 5 5) ((w.extractLsb' 16 4).signExtend 32))
  | .ld1dSs => some (.ld1dSs 64 (w.extractLsb' 0 5) ⟨(w.extractLsb' 10 3).setWidth 4, Style.zeroing⟩ (w.extractLsb' 5 5) (w.extractLsb' 16 5))
  | .ld1dSi => some (.ld1dSi 64 (w.extractLsb' 0 5) ⟨(w.extractLsb' 10 3).setWidth 4, Style.zeroing⟩ (w.extractLsb' 5 5) ((w.extractLsb' 16 4).signExtend 32))
  | .st1bSs => some (.st1bSs (sizeOfCode (w.extractLsb' 21 2)) (w.extractLsb' 0 5) ⟨(w.extractLsb' 10 3).setWidth 4, Style.plain⟩ (w.extractLsb' 5 5) (w.extractLsb' 16 5))
  | .st1bSi => some (.st1bSi (sizeOfCode (w.extractLsb' 21 2)) (w.extractLsb' 0 5) ⟨(w.extractLsb' 10 3).setWidth 4, Style.plain⟩ (w.extractLsb' 5 5) ((w.extractLsb' 16 4).signExtend 32))
  | .st1hSs => some (.st1hSs (sizeOfCode (w.extractLsb' 21 2)) (w.extractLsb' 0 5) ⟨(w.extractLsb' 10 3).setWidth 4, Style.plain⟩ (w.extractLsb' 5 5) (w.extractLsb' 16 5))
  | .st1hSi => some (.st1hSi (sizeOfCode (w.extractLsb' 21 2)) (w.extractLsb' 0 5) ⟨(w.extractLsb' 10 3).setWidth 4, Style.plain⟩ (w.extractLsb' 5 5) ((w.extractLsb' 16 4).signExtend 32))
  | .st1wSs => some (.st1wSs (sizeOfCode (w.extractLsb' 21 2)) (w.extractLsb' 0 5) ⟨(w.extractLsb' 10 3).setWidth 4, Style.plain⟩ (w.extractLsb' 5 5) (w.extractLsb' 16 5))
  | .st1wSi => some (.st1wSi (sizeOfCode (w.extractLsb' 21 2)) (w.extractLsb' 0 5) ⟨(w.extractLsb' 10 3).setWidth 4, Style.plain⟩ (w.extractLsb' 5 5) ((w.extractLsb' 16 4).signExtend 32))
  | .st1dSs => some (.st1dSs (sizeOfCode (w.extractLsb' 21 2)) (w.extractLsb' 0 5) ⟨(w.extractLsb' 10 3).setWidth 4, Style.plain⟩ (w.extractLsb' 5 5) (w.extractLsb' 16 5))
  | .st1dSi => some (.st1dSi (sizeOfCode (w.extractLsb' 21 2)) (w.extractLsb' 0 5) ⟨(w.extractLsb' 10 3).setWidth 4, Style.plain⟩ (w.extractLsb' 5 5) ((w.extractLsb' 16 4).signExtend 32))
  | .ld2bSs => some (.ld2bSs (w.extractLsb' 0 5) (w.extractLsb' 0 5 + 1) ⟨(w.extractLsb' 10 3).setWidth 4, Style.zeroing⟩ (w.extractLsb' 5 5) (w.extractLsb' 16 5))
  | .ld2bSi => some (.ld2bSi (w.extractLsb' 0 5) (w.extractLsb' 0 5 + 1) ⟨(w.extractLsb' 10 3).setWidth 4, Style.zeroing⟩ (w.extractLsb' 5 5) (2 * (w.extractLsb' 16 4).signExtend 32))
  | .ld2hSs => some (.ld2hSs (w.extractLsb' 0 5) (w.extractLsb' 0 5 + 1) ⟨(w.extractLsb' 10 3).setWidth 4, Style.zeroing⟩ (w.extractLsb' 5 5) (w.extractLsb' 16 5))
  | .ld2hSi => some (.ld2hSi (w.extractLsb' 0 5) (w.extractLsb' 0 5 + 1) ⟨(w.extractLsb' 10 3).setWidth 4, Style.zeroing⟩ (w.extractLsb' 5 5) (2 * (w.extractLsb' 16 4).signExtend 32))
  | .ld2wSs => some (.ld2wSs (w.extractLsb' 0 5) (w.extractLsb' 0 5 + 1) ⟨(w.extractLsb' 10 3).setWidth 4, Style.zeroing⟩ (w.extractLsb' 5 5) (w.extractLsb' 16 5))
  | .ld2wSi => some (.ld2wSi (w.extractLsb' 0 5) (w.extractLsb' 0 5 + 1) ⟨(w.extractLsb' 10 3).setWidth 4, Style.zeroing⟩ (w.extractLsb' 5 5) (2 * (w.extractLsb' 16 4).signExtend 32))
  | .ld2dSs => some (.ld2dSs (w.extractLsb' 0 5) (w.extractLsb' 0 5 + 1) ⟨(w.extractLsb' 10 3).setWidth 4, Style.zeroing⟩ (w.extractLsb' 5 5) (w.extractLsb' 16 5))
  | .ld2dSi => some (.ld2dSi (w.extractLsb' 0 5) (w.extractLsb' 0 5 + 1) ⟨(w.extractLsb' 10 3).setWidth 4, Style.zeroing⟩ (w.extractLsb' 5 5) (2 * (w.extractLsb' 16 4).signExtend 32))
  | .ld3bSs => some (.ld3bSs (w.extractLsb' 0 5) (w.extractLsb' 0 5 + 1) (w.extractLsb' 0 5 + 2) ⟨(w.extractLsb' 10 3).setWidth 4, Style.zeroing⟩ (w.extractLsb' 5 5) (w.extractLsb' 16 5))
  | .ld3bSi => some (.ld3bSi (w.extractLsb' 0 5) (w.extractLsb' 0 5 + 1) (w.extractLsb' 0 5 + 2) ⟨(w.extractLsb' 10 3).setWidth 4, Style.zeroing⟩ (w.extractLsb' 5 5) (3 * (w.extractLsb' 16 4).signExtend 32))
  | .ld3hSs => some (.ld3hSs (w.extractLsb' 0 5) (w.extractLsb' 0 5 + 1) (w.extractLsb' 0 5 + 2) ⟨(w.extractLsb' 10 3).setWidth 4, Style.zeroing⟩ (w.extractLsb' 5 5) (w.extractLsb' 16 5))
  | .ld3hSi => some (.ld3hSi (w.extractLsb' 0 5) (w.extractLsb' 0 5 + 1) (w.extractLsb' 0 5 + 2) ⟨(w.extractLsb' 10 3).setWidth 4, Style.zeroing⟩ (w.extractLsb' 5 5) (3 * (w.extractLsb' 16 4).signExtend 32))
  | .ld3wSs => some (.ld3wSs (w.extractLsb' 0 5) (w.extractLsb' 0 5 + 1) (w.extractLsb' 0 5 + 2) ⟨(w.extractLsb' 10 3).setWidth 4, Style.zeroing⟩ (w.extractLsb' 5 5) (w.extractLsb' 16 5))
  | .ld3wSi => some (.ld3wSi (w.extractLsb' 0 5) (w.extractLsb' 0 5 + 1) (w.extractLsb' 0 5 + 2) ⟨(w.extractLsb' 10 3).setWidth 4, Style.zeroing⟩ (w.extractLsb' 5 5) (3 * (w.extractLsb' 16 4).signExtend 32))
  | .ld3dSs => some (.ld3dSs (w.extractLsb' 0 5) (w.extractLsb' 0 5 + 1) (w.extractLsb' 0 5 + 2) ⟨(w.extractLsb' 10 3).setWidth 4, Style.zeroing⟩ (w.extractLsb' 5 5) (w.extractLsb' 16 5))
  | .ld3dSi => some (.ld3dSi (w.extractLsb' 0 5) (w.extractLsb' 0 5 + 1) (w.extractLsb' 0 5 + 2) ⟨(w.extractLsb' 10 3).setWidth 4, Style.zeroing⟩ (w.extractLsb' 5 5) (3 * (w.extractLsb' 16 4).signExtend 32))
  | .ld4bSs => some (.ld4bSs (w.extractLsb' 0 5) (w.extractLsb' 0 5 + 1) (w.extractLsb' 0 5 + 2) (w.extractLsb' 0 5 + 3) ⟨(w.extractLsb' 10 3).setWidth 4, Style.zeroing⟩ (w.extractLsb' 5 5) (w.extractLsb' 16 5))
  | .ld4bSi => some (.ld4bSi (w.extractLsb' 0 5) (w.extractLsb' 0 5 + 1) (w.extractLsb' 0 5 + 2) (w.extractLsb' 0 5 + 3) ⟨(w.extractLsb' 10 3).setWidth 4, Style.zeroing⟩ (w.extractLsb' 5 5) (4 * (w.extractLsb' 16 4).signExtend 32))
  | .ld4hSs => some (.ld4hSs (w.extractLsb' 0 5) (w.extractLsb' 0 5 + 1) (w.extractLsb' 0 5 + 2) (w.extractLsb' 0 5 + 3) ⟨(w.extractLsb' 10 3).setWidth 4, Style.zeroing⟩ (w.extractLsb' 5 5) (w.extractLsb' 16 5))
  | .ld4hSi => some (.ld4hSi (w.extractLsb' 0 5) (w.extractLsb' 0 5 + 1) (w.extractLsb' 0 5 + 2) (w.extractLsb' 0 5 + 3) ⟨(w.extractLsb' 10 3).setWidth 4, Style.zeroing⟩ (w.extractLsb' 5 5) (4 * (w.extractLsb' 16 4).signExtend 32))
  | .ld4wSs => some (.ld4wSs (w.extractLsb' 0 5) (w.extractLsb' 0 5 + 1) (w.extractLsb' 0 5 + 2) (w.extractLsb' 0 5 + 3) ⟨(w.extractLsb' 10 3).setWidth 4, Style.zeroing⟩ (w.extractLsb' 5 5) (w.extractLsb' 16 5))
  | .ld4wSi => some (.ld4wSi (w.extractLsb' 0 5) (w.extractLsb' 0 5 + 1) (w.extractLsb' 0 5 + 2) (w.extractLsb' 0 5 + 3) ⟨(w.extractLsb' 10 3).setWidth 4, Style.zeroing⟩ (w.extractLsb' 5 5) (4 * (w.extractLsb' 16 4).signExtend 32))
  | .ld4dSs => some (.ld4dSs (w.extractLsb' 0 5) (w.extractLsb' 0 5 + 1) (w.extractLsb' 0 5 + 2) (w.extractLsb' 0 5 + 3) ⟨(w.extractLsb' 10 3).setWidth 4, Style.zeroing⟩ (w.extractLsb' 5 5) (w.extractLsb' 16 5))
  | .ld4dSi => some (.ld4dSi (w.extractLsb' 0 5) (w.extractLsb' 0 5 + 1) (w.extractLsb' 0 5 + 2) (w.extractLsb' 0 5 + 3) ⟨(w.extractLsb' 10 3).setWidth 4, Style.zeroing⟩ (w.extractLsb' 5 5) (4 * (w.extractLsb' 16 4).signExtend 32))
  | .st2bSs => some (.st2bSs (w.extractLsb' 0 5) (w.extractLsb' 0 5 + 1) ⟨(w.extractLsb' 10 3).setWidth 4, Style.plain⟩ (w.extractLsb' 5 5) (w.extractLsb' 16 5))
  | .st2bSi => some (.st2bSi (w.extractLsb' 0 5) (w.extractLsb' 0 5 + 1) ⟨(w.extractLsb' 10 3).setWidth 4, Style.plain⟩ (w.extractLsb' 5 5) (2 * (w.extractLsb' 16 4).signExtend 32))
  | .st2hSs => some (.st2hSs (w.extractLsb' 0 5) (w.extractLsb' 0 5 + 1) ⟨(w.extractLsb' 10 3).setWidth 4, Style.plain⟩ (w.extractLsb' 5 5) (w.extractLsb' 16 5))
  | .st2hSi => some (.st2hSi (w.extractLsb' 0 5) (w.extractLsb' 0 5 + 1) ⟨(w.extractLsb' 10 3).setWidth 4, Style.plain⟩ (w.extractLsb' 5 5) (2 * (w.extractLsb' 16 4).signExtend 32))
  | .st2wSs => some (.st2wSs (w.extractLsb' 0 5) (w.extractLsb' 0 5 + 1) ⟨(w.extractLsb' 10 3).setWidth 4, Style.plain⟩ (w.extractLsb' 5 5) (w.extractLsb' 16 5))
  | .st2wSi => some (.st2wSi (w.extractLsb' 0 5) (w.extractLsb' 0 5 + 1) ⟨(w.extractLsb' 10 3).setWidth 4, Style.plain⟩ (w.extractLsb' 5 5) (2 * (w.extractLsb' 16 4).signExtend 32))
  | .st2dSs => some (.st2dSs (w.extractLsb' 0 5) (w.extractLsb' 0 5 + 1) ⟨(w.extractLsb' 10 3).setWidth 4, Style.plain⟩ (w.extractLsb' 5 5) (w.extractLsb' 16 5))
  | .st2dSi => some (.st2dSi (w.extractLsb' 0 5) (w.extractLsb' 0 5 + 1) ⟨(w.extractLsb' 10 3).setWidth 4, Style.plain⟩ (w.extractLsb' 5 5) (2 * (w.extractLsb' 16 4).signExtend 32))
  | .st3bSs => some (.st3bSs (w.extractLsb' 0 5) (w.extractLsb' 0 5 + 1) (w.extractLsb' 0 5 + 2) ⟨(w.extractLsb' 10 3).setWidth 4, Style.plain⟩ (w.extractLsb' 5 5) (w.extractLsb' 16 5))
  | .st3bSi => some (.st3bSi (w.extractLsb' 0 5) (w.extractLsb' 0 5 + 1) (w.extractLsb' 0 5 + 2) ⟨(w.extractLsb' 10 3).setWidth 4, Style.plain⟩ (w.extractLsb' 5 5) (3 * (w.extractLsb' 16 4).signExtend 32))
  | .st3hSs => some (.st3hSs (w.extractLsb' 0 5) (w.extractLsb' 0 5 + 1) (w.extractLsb' 0 5 + 2) ⟨(w.extractLsb' 10 3).setWidth 4, Style.plain⟩ (w.extractLsb' 5 5) (w.extractLsb' 16 5))
  | .st3hSi => some (.st3hSi (w.extractLsb' 0 5) (w.extractLsb' 0 5 + 1) (w.extractLsb' 0 5 + 2) ⟨(w.extractLsb' 10 3).setWidth 4, Style.plain⟩ (w.extractLsb' 5 5) (3 * (w.extractLsb' 16 4).signExtend 32))
  | .st3wSs => some (.st3wSs (w.extractLsb' 0 5) (w.extractLsb' 0 5 + 1) (w.extractLsb' 0 5 + 2) ⟨(w.extractLsb' 10 3).setWidth 4, Style.plain⟩ (w.extractLsb' 5 5) (w.extractLsb' 16 5))
  | .st3wSi => some (.st3wSi (w.extractLsb' 0 5) (w.extractLsb' 0 5 + 1) (w.extractLsb' 0 5 + 2) ⟨(w.extractLsb' 10 3).setWidth 4, Style.plain⟩ (w.extractLsb' 5 5) (3 * (w.extractLsb' 16 4).signExtend 32))
  | .st3dSs => some (.st3dSs (w.extractLsb' 0 5) (w.extractLsb' 0 5 + 1) (w.extractLsb' 0 5 + 2) ⟨(w.extractLsb' 10 3).setWidth 4, Style.plain⟩ (w.extractLsb' 5 5) (w.extractLsb' 16 5))
  | .st3dSi => some (.st3dSi (w.extractLsb' 0 5) (w.extractLsb' 0 5 + 1) (w.extractLsb' 0 5 + 2) ⟨(w.extractLsb' 10 3).setWidth 4, Style.plain⟩ (w.extractLsb' 5 5) (3 * (w.extractLsb' 16 4).signExtend 32))
  | .st4bSs => some (.st4bSs (w.extractLsb' 0 5) (w.extractLsb' 0 5 + 1) (w.extractLsb' 0 5 + 2) (w.extractLsb' 0 5 + 3) ⟨(w.extractLsb' 10 3).setWidth 4, Style.plain⟩ (w.extractLsb' 5 5) (w.extractLsb' 16 5))
  | .st4bSi => some (.st4bSi (w.extractLsb' 0 5) (w.extractLsb' 0 5 + 1) (w.extractLsb' 0 5 + 2) (w.extractLsb' 0 5 + 3) ⟨(w.extractLsb' 10 3).setWidth 4, Style.plain⟩ (w.extractLsb' 5 5) (4 * (w.extractLsb' 16 4).signExtend 32))
  | .st4hSs => some (.st4hSs (w.extractLsb' 0 5) (w.extractLsb' 0 5 + 1) (w.extractLsb' 0 5 + 2) (w.extractLsb' 0 5 + 3) ⟨(w.extractLsb' 10 3).setWidth 4, Style.plain⟩ (w.extractLsb' 5 5) (w.extractLsb' 16 5))
  | .st4hSi => some (.st4hSi (w.extractLsb' 0 5) (w.extractLsb' 0 5 + 1) (w.extractLsb' 0 5 + 2) (w.extractLsb' 0 5 + 3) ⟨(w.extractLsb' 10 3).setWidth 4, Style.plain⟩ (w.extractLsb' 5 5) (4 * (w.extractLsb' 16 4).signExtend 32))
  | .st4wSs => some (.st4wSs (w.extractLsb' 0 5) (w.extractLsb' 0 5 + 1) (w.extractLsb' 0 5 + 2) (w.extractLsb' 0 5 + 3) ⟨(w.extractLsb' 10 3).setWidth 4, Style.plain⟩ (w.extractLsb' 5 5) (w.extractLsb' 16 5))
  | .st4wSi => some (.st4wSi (w.extractLsb' 0 5) (w.extractLsb' 0 5 + 1) (w.extractLsb' 0 5 + 2) (w.extractLsb' 0 5 + 3) ⟨(w.extractLsb' 10 3).setWidth 4, Style.plain⟩ (w.extractLsb' 5 5) (4 * (w.extractLsb' 16 4).signExtend 32))
  | .st4dSs => some (.st4dSs (w.extractLsb' 0 5) (w.extractLsb' 0 5 + 1) (w.extractLsb' 0 5 + 2) (w.extractLsb' 0 5 + 3) ⟨(w.extractLsb' 10 3).setWidth 4, Style.plain⟩ (w.extractLsb' 5 5) (w.extractLsb' 16 5))
  | .st4dSi => some (.st4dSi (w.extractLsb' 0 5) (w.extractLsb' 0 5 + 1) (w.extractLsb' 0 5 + 2) (w.extractLsb' 0 5 + 3) ⟨(w.extractLsb' 10 3).setWidth 4, Style.plain⟩ (w.extractLsb' 5 5) (4 * (w.extractLsb' 16 4).signExtend 32))
  | .asrImmPred => let v := (w.extractLsb' 22 2) ++ w.extractLsb' 8 2 ++ w.extractLsb' 5 3; some (.asrImmPred (codecSize v) (w.extractLsb' 0 5) ⟨(w.extractLsb' 10 3).setWidth 4, Style.merging⟩ (w.extractLsb' 0 5) (rightShiftOf v))
  | .lsrImmPred => let v := (w.extractLsb' 22 2) ++ w.extractLsb' 8 2 ++ w.extractLsb' 5 3; some (.lsrImmPred (codecSize v) (w.extractLsb' 0 5) ⟨(w.extractLsb' 10 3).setWidth 4, Style.merging⟩ (w.extractLsb' 0 5) (rightShiftOf v))
  | .lslImmPred => let v := (w.extractLsb' 22 2) ++ w.extractLsb' 8 2 ++ w.extractLsb' 5 3; some (.lslImmPred (codecSize v) (w.extractLsb' 0 5) ⟨(w.extractLsb' 10 3).setWidth 4, Style.merging⟩ (w.extractLsb' 0 5) (leftShiftOf v))
  | .asrdImmPred => let v := (w.extractLsb' 22 2) ++ w.extractLsb' 8 2 ++ w.extractLsb' 5 3; some (.asrdImmPred (codecSize v) (w.extractLsb' 0 5) ⟨(w.extractLsb' 10 3).setWidth 4, Style.merging⟩ (w.extractLsb' 0 5) (rightShiftOf v))
  | .sqshlImmPred => let v := (w.extractLsb' 22 2) ++ w.extractLsb' 8 2 ++ w.extractLsb' 5 3; some (.sqshlImmPred (codecSize v) (w.extractLsb' 0 5) ⟨(w.extractLsb' 10 3).setWidth 4, Style.merging⟩ (w.extractLsb' 0 5) (leftShiftOf v))
  | .uqshlImmPred => let v := (w.extractLsb' 22 2) ++ w.extractLsb' 8 2 ++ w.extractLsb' 5 3; some (.uqshlImmPred (codecSize v) (w.extractLsb' 0 5) ⟨(w.extractLsb' 10 3).setWidth 4, Style.merging⟩ (w.extractLsb' 0 5) (leftShiftOf v))
  | .srshrImmPred => let v := (w.extractLsb' 22 2) ++ w.extractLsb' 8 2 ++ w.extractLsb' 5 3; some (.srshrImmPred (codecSize v) (w.extractLsb' 0 5) ⟨(w.extractLsb' 10 3).setWidth 4, Style.merging⟩ (w.extractLsb' 0 5) (rightShiftOf v))
  | .urshrImmPred => let v := (w.extractLsb' 22 2) ++ w.extractLsb' 8 2 ++ w.extractLsb' 5 3; some (.urshrImmPred (codecSize v) (w.extractLsb' 0 5) ⟨(w.extractLsb' 10 3).setWidth 4, Style.merging⟩ (w.extractLsb' 0 5) (rightShiftOf v))
  | .sqshluImmPred => let v := (w.extractLsb' 22 2) ++ w.extractLsb' 8 2 ++ w.extractLsb' 5 3; some (.sqshluImmPred (codecSize v) (w.extractLsb' 0 5) ⟨(w.extractLsb' 10 3).setWidth 4, Style.merging⟩ (w.extractLsb' 0 5) (leftShiftOf v))
  | .asrImmUnpred => let v := (w.extractLsb' 22 2) ++ w.extractLsb' 19 2 ++ w.extractLsb' 16 3; some (.asrImmUnpred (codecSize v) (w.extractLsb' 0 5) (w.extractLsb' 5 5) (rightShiftOf v))
  | .lsrImmUnpred => let v := (w.extractLsb' 22 2) ++ w.extractLsb' 19 2 ++ w.extractLsb' 16 3; some (.lsrImmUnpred (codecSize v) (w.extractLsb' 0 5) (w.extractLsb' 5 5) (rightShiftOf v))
  | .lslImmUnpred => let v := (w.extractLsb' 22 2) ++ w.extractLsb' 19 2 ++ w.extractLsb' 16 3; some (.lslImmUnpred (codecSize v) (w.extractLsb' 0 5) (w.extractLsb' 5 5) (leftShiftOf v))
  | .asrVecPred => some (.asrVecPred (sizeOfCode (w.extractLsb' 22 2)) (w.extractLsb' 0 5) ⟨(w.extractLsb' 10 3).setWidth 4, Style.merging⟩ (w.extractLsb' 0 5) (w.extractLsb' 5 5))
  | .lsrVecPred => some (.lsrVecPred (sizeOfCode (w.extractLsb' 22 2)) (w.extractLsb' 0 5) ⟨(w.extractLsb' 10 3).setWidth 4, Style.merging⟩ (w.extractLsb' 0 5) (w.extractLsb' 5 5))
  | .lslVecPred => some (.lslVecPred (sizeOfCode (w.extractLsb' 22 2)) (w.extractLsb' 0 5) ⟨(w.extractLsb' 10 3).setWidth 4, Style.merging⟩ (w.extractLsb' 0 5) (w.extractLsb' 5 5))
  | .asrrVecPred => some (.asrrVecPred (sizeOfCode (w.extractLsb' 22 2)) (w.extractLsb' 0 5) ⟨(w.extractLsb' 10 3).setWidth 4, Style.merging⟩ (w.extractLsb' 0 5) (w.extractLsb' 5 5))
  | .lsrrVecPred => some (.lsrrVecPred (sizeOfCode (w.extractLsb' 22 2)) (w.extractLsb' 0 5) ⟨(w.extractLsb' 10 3).setWidth 4, Style.merging⟩ (w.extractLsb' 0 5) (w.extractLsb' 5 5))
  | .lslrVecPred => some (.lslrVecPred (sizeOfCode (w.extractLsb' 22 2)) (w.extractLsb' 0 5) ⟨(w.extractLsb' 10 3).setWidth 4, Style.merging⟩ (w.extractLsb' 0 5) (w.extractLsb' 5 5))
  | .asrWidePred => some (.asrWidePred (sizeOfCode (w.extractLsb' 22 2)) (w.extractLsb' 0 5) ⟨(w.extractLsb' 10 3).setWidth 4, Style.merging⟩ (w.extractLsb' 0 5) (w.extractLsb' 5 5))
  | .lsrWidePred => some (.lsrWidePred (sizeOfCode (w.extractLsb' 22 2)) (w.extractLsb' 0 5) ⟨(w.extractLsb' 10 3).setWidth 4, Style.merging⟩ (w.extractLsb' 0 5) (w.extractLsb' 5 5))
  | .lslWidePred => some (.lslWidePred (sizeOfCode (w.extractLsb' 22 2)) (w.extractLsb' 0 5) ⟨(w.extractLsb' 10 3).setWidth 4, Style.merging⟩ (w.extractLsb' 0 5) (w.extractLsb' 5 5))
  | .asrWideUnpred => some (.asrWideUnpred (sizeOfCode (w.extractLsb' 22 2)) (w.extractLsb' 0 5) (w.extractLsb' 5 5) (w.extractLsb' 16 5))
  | .lsrWideUnpred => some (.lsrWideUnpred (sizeOfCode (w.extractLsb' 22 2)) (w.extractLsb' 0 5) (w.extractLsb' 5 5) (w.extractLsb' 16 5))
  | .lslWideUnpred => some (.lslWideUnpred (sizeOfCode (w.extractLsb' 22 2)) (w.extractLsb' 0 5) (w.extractLsb' 5 5) (w.extractLsb' 16 5))
  | .saddlb => some (.saddlb (sizeOfCode (w.extractLsb' 22 2)) (w.extractLsb' 0 5) (w.extractLsb' 5 5) (w.extractLsb' 16 5))
  | .saddlt => some (.saddlt (sizeOfCode (w.extractLsb' 22 2)) (w.extractLsb' 0 5) (w.extractLsb' 5 5) (w.extractLsb' 16 5))
  | .uaddlb => some (.uaddlb (sizeOfCode (w.extractLsb' 22 2)) (w.extractLsb' 0 5) (w.extractLsb' 5 5) (w.extractLsb' 16 5))
  | .uaddlt => some (.uaddlt (sizeOfCode (w.extractLsb' 22 2)) (w.extractLsb' 0 5) (w.extractLsb' 5 5) (w.extractLsb' 16 5))
  | .ssublb => some (.ssublb (sizeOfCode (w.extractLsb' 22 2)) (w.extractLsb' 0 5) (w.extractLsb' 5 5) (w.extractLsb' 16 5))
  | .ssublt => some (.ssublt (sizeOfCode (w.extractLsb' 22 2)) (w.extractLsb' 0 5) (w.extractLsb' 5 5) (w.extractLsb' 16 5))
  | .usublb => some (.usublb (sizeOfCode (w.extractLsb' 22 2)) (w.extractLsb' 0 5) (w.extractLsb' 5 5) (w.extractLsb' 16 5))
  | .usublt => some (.usublt (sizeOfCode (w.extractLsb' 22 2)) (w.extractLsb' 0 5) (w.extractLsb' 5 5) (w.extractLsb' 16 5))
  | .sabdlb => some (.sabdlb (sizeOfCode (w.extractLsb' 22 2)) (w.extractLsb' 0 5) (w.extractLsb' 5 5) (w.extractLsb' 16 5))
  | .sabdlt => some (.sabdlt (sizeOfCode (w.extractLsb' 22 2)) (w.extractLsb' 0 5) (w.extractLsb' 5 5) (w.extractLsb' 16 5))
  | .uabdlb => some (.uabdlb (sizeOfCode (w.extractLsb' 22 2)) (w.extractLsb' 0 5) (w.extractLsb' 5 5) (w.extractLsb' 16 5))
  | .uabdlt => some (.uabdlt (sizeOfCode (w.extractLsb' 22 2)) (w.extractLsb' 0 5) (w.extractLsb' 5 5) (w.extractLsb' 16 5))
  | .sshllb => let v := (0#1 ++ w.extractLsb' 22 1) ++ w.extractLsb' 19 2 ++ w.extractLsb' 16 3; some (.sshllb (2 * codecSize v) (w.extractLsb' 0 5) (w.extractLsb' 5 5) (leftShiftOf v))
  | .sshllt => let v := (0#1 ++ w.extractLsb' 22 1) ++ w.extractLsb' 19 2 ++ w.extractLsb' 16 3; some (.sshllt (2 * codecSize v) (w.extractLsb' 0 5) (w.extractLsb' 5 5) (leftShiftOf v))
  | .ushllb => let v := (0#1 ++ w.extractLsb' 22 1) ++ w.extractLsb' 19 2 ++ w.extractLsb' 16 3; some (.ushllb (2 * codecSize v) (w.extractLsb' 0 5) (w.extractLsb' 5 5) (leftShiftOf v))
  | .ushllt => let v := (0#1 ++ w.extractLsb' 22 1) ++ w.extractLsb' 19 2 ++ w.extractLsb' 16 3; some (.ushllt (2 * codecSize v) (w.extractLsb' 0 5) (w.extractLsb' 5 5) (leftShiftOf v))
  | .addhnb => some (.addhnb (narrowSizeOfCode (w.extractLsb' 22 2)) (w.extractLsb' 0 5) (w.extractLsb' 5 5) (w.extractLsb' 16 5))
  | .addhnt => some (.addhnt (narrowSizeOfCode (w.extractLsb' 22 2)) (w.extractLsb' 0 5) (w.extractLsb' 5 5) (w.extractLsb' 16 5))
  | .raddhnb => some (.raddhnb (narrowSizeOfCode (w.extractLsb' 22 2)) (w.extractLsb' 0 5) (w.extractLsb' 5 5) (w.extractLsb' 16 5))
  | .raddhnt => some (.raddhnt (narrowSizeOfCode (w.extractLsb' 22 2)) (w.extractLsb' 0 5) (w.extractLsb' 5 5) (w.extractLsb' 16 5))
  | .subhnb => some (.subhnb (narrowSizeOfCode (w.extractLsb' 22 2)) (w.extractLsb' 0 5) (w.extractLsb' 5 5) (w.extractLsb' 16 5))
  | .subhnt => some (.subhnt (narrowSizeOfCode (w.extractLsb' 22 2)) (w.extractLsb' 0 5) (w.extractLsb' 5 5) (w.extractLsb' 16 5))
  | .rsubhnb => some (.rsubhnb (narrowSizeOfCode (w.extractLsb' 22 2)) (w.extractLsb' 0 5) (w.extractLsb' 5 5) (w.extractLsb' 16 5))
  | .rsubhnt => some (.rsubhnt (narrowSizeOfCode (w.extractLsb' 22 2)) (w.extractLsb' 0 5) (w.extractLsb' 5 5) (w.extractLsb' 16 5))
  | .sqshrunb => let v := (0#1 ++ w.extractLsb' 22 1) ++ w.extractLsb' 19 2 ++ w.extractLsb' 16 3; some (.sqshrunb (codecSize v) (w.extractLsb' 0 5) (w.extractLsb' 5 5) (rightShiftOf v))
  | .sqshrunt => let v := (0#1 ++ w.extractLsb' 22 1) ++ w.extractLsb' 19 2 ++ w.extractLsb' 16 3; some (.sqshrunt (codecSize v) (w.extractLsb' 0 5) (w.extractLsb' 5 5) (rightShiftOf v))
  | .sqrshrunb => let v := (0#1 ++ w.extractLsb' 22 1) ++ w.extractLsb' 19 2 ++ w.extractLsb' 16 3; some (.sqrshrunb (codecSize v) (w.extractLsb' 0 5) (w.extractLsb' 5 5) (rightShiftOf v))
  | .sqrshrunt => let v := (0#1 ++ w.extractLsb' 22 1) ++ w.extractLsb' 19 2 ++ w.extractLsb' 16 3; some (.sqrshrunt (codecSize v) (w.extractLsb' 0 5) (w.extractLsb' 5 5) (rightShiftOf v))
  | .shrnb => let v := (0#1 ++ w.extractLsb' 22 1) ++ w.extractLsb' 19 2 ++ w.extractLsb' 16 3; some (.shrnb (codecSize v) (w.extractLsb' 0 5) (w.extractLsb' 5 5) (rightShiftOf v))
  | .shrnt => let v := (0#1 ++ w.extractLsb' 22 1) ++ w.extractLsb' 19 2 ++ w.extractLsb' 16 3; some (.shrnt (codecSize v) (w.extractLsb' 0 5) (w.extractLsb' 5 5) (rightShiftOf v))
  | .rshrnb => let v := (0#1 ++ w.extractLsb' 22 1) ++ w.extractLsb' 19 2 ++ w.extractLsb' 16 3; some (.rshrnb (codecSize v) (w.extractLsb' 0 5) (w.extractLsb' 5 5) (rightShiftOf v))
  | .rshrnt => let v := (0#1 ++ w.extractLsb' 22 1) ++ w.extractLsb' 19 2 ++ w.extractLsb' 16 3; some (.rshrnt (codecSize v) (w.extractLsb' 0 5) (w.extractLsb' 5 5) (rightShiftOf v))
  | .sqshrnb => let v := (0#1 ++ w.extractLsb' 22 1) ++ w.extractLsb' 19 2 ++ w.extractLsb' 16 3; some (.sqshrnb (codecSize v) (w.extractLsb' 0 5) (w.extractLsb' 5 5) (rightShiftOf v))
  | .sqshrnt => let v := (0#1 ++ w.extractLsb' 22 1) ++ w.extractLsb' 19 2 ++ w.extractLsb' 16 3; some (.sqshrnt (codecSize v) (w.extractLsb' 0 5) (w.extractLsb' 5 5) (rightShiftOf v))
  | .sqrshrnb => let v := (0#1 ++ w.extractLsb' 22 1) ++ w.extractLsb' 19 2 ++ w.extractLsb' 16 3; some (.sqrshrnb (codecSize v) (w.extractLsb' 0 5) (w.extractLsb' 5 5) (rightShiftOf v))
  | .sqrshrnt => let v := (0#1 ++ w.extractLsb' 22 1) ++ w.extractLsb' 19 2 ++ w.extractLsb' 16 3; some (.sqrshrnt (codecSize v) (w.extractLsb' 0 5) (w.extractLsb' 5 5) (rightShiftOf v))
  | .uqshrnb => let v := (0#1 ++ w.extractLsb' 22 1) ++ w.extractLsb' 19 2 ++ w.extractLsb' 16 3; some (.uqshrnb (codecSize v) (w.extractLsb' 0 5) (w.extractLsb' 5 5) (rightShiftOf v))
  | .uqshrnt => let v := (0#1 ++ w.extractLsb' 22 1) ++ w.extractLsb' 19 2 ++ w.extractLsb' 16 3; some (.uqshrnt (codecSize v) (w.extractLsb' 0 5) (w.extractLsb' 5 5) (rightShiftOf v))
  | .uqrshrnb => let v := (0#1 ++ w.extractLsb' 22 1) ++ w.extractLsb' 19 2 ++ w.extractLsb' 16 3; some (.uqrshrnb (codecSize v) (w.extractLsb' 0 5) (w.extractLsb' 5 5) (rightShiftOf v))
  | .uqrshrnt => let v := (0#1 ++ w.extractLsb' 22 1) ++ w.extractLsb' 19 2 ++ w.extractLsb' 16 3; some (.uqrshrnt (codecSize v) (w.extractLsb' 0 5) (w.extractLsb' 5 5) (rightShiftOf v))
  | .ssra => let v := (w.extractLsb' 22 2) ++ w.extractLsb' 19 2 ++ w.extractLsb' 16 3; some (.ssra (codecSize v) (w.extractLsb' 0 5) (w.extractLsb' 5 5) (rightShiftOf v))
  | .usra => let v := (w.extractLsb' 22 2) ++ w.extractLsb' 19 2 ++ w.extractLsb' 16 3; some (.usra (codecSize v) (w.extractLsb' 0 5) (w.extractLsb' 5 5) (rightShiftOf v))
  | .srsra => let v := (w.extractLsb' 22 2) ++ w.extractLsb' 19 2 ++ w.extractLsb' 16 3; some (.srsra (codecSize v) (w.extractLsb' 0 5) (w.extractLsb' 5 5) (rightShiftOf v))
  | .ursra => let v := (w.extractLsb' 22 2) ++ w.extractLsb' 19 2 ++ w.extractLsb' 16 3; some (.ursra (codecSize v) (w.extractLsb' 0 5) (w.extractLsb' 5 5) (rightShiftOf v))
  | .sri => let v := (w.extractLsb' 22 2) ++ w.extractLsb' 19 2 ++ w.extractLsb' 16 3; some (.sri (codecSize v) (w.extractLsb' 0 5) (w.extractLsb' 5 5) (rightShiftOf v))
  | .sli => let v := (w.extractLsb' 22 2) ++ w.extractLsb' 19 2 ++ w.extractLsb' 16 3; some (.sli (codecSize v) (w.extractLsb' 0 5) (w.extractLsb' 5 5) (leftShiftOf v))
  | .faddUnpred => some (.faddUnpred (sizeOfCode (w.extractLsb' 22 2)) (w.extractLsb' 0 5) (w.extractLsb' 5 5) (w.extractLsb' 16 5))
  | .fsubUnpred => some (.fsubUnpred (sizeOfCode (w.extractLsb' 22 2)) (w.extractLsb' 0 5) (w.extractLsb' 5 5) (w.extractLsb' 16 5))
  | .fmulUnpred => some (.fmulUnpred (sizeOfCode (w.extractLsb' 22 2)) (w.extractLsb' 0 5) (w.extractLsb' 5 5) (w.extractLsb' 16 5))
  | .ftsmulUnpred => some (.ftsmulUnpred (sizeOfCode (w.extractLsb' 22 2)) (w.extractLsb' 0 5) (w.extractLsb' 5 5) (w.extractLsb' 16 5))
  | .frecpsUnpred => some (.frecpsUnpred (sizeOfCode (w.extractLsb' 22 2)) (w.extractLsb' 0 5) (w.extractLsb' 5 5) (w.extractLsb' 16 5))
  | .frsqrtsUnpred => some (.frsqrtsUnpred (sizeOfCode (w.extractLsb' 22 2)) (w.extractLsb' 0 5) (w.extractLsb' 5 5) (w.extractLsb' 16 5))
  | .faddPred => some (.faddPred (sizeOfCode (w.extractLsb' 22 2)) (w.extractLsb' 0 5) ⟨(w.extractLsb' 10 3).setWidth 4, Style.merging⟩ (w.extractLsb' 0 5) (w.extractLsb' 5 5))
  | .fsubPred => some (.fsubPred (sizeOfCode (w.extractLsb' 22 2)) (w.extractLsb' 0 5) ⟨(w.extractLsb' 10 3).setWidth 4, Style.merging⟩ (w.extractLsb' 0 5) (w.extractLsb' 5 5))
  | .fmulPred => some (.fmulPred (sizeOfCode (w.extractLsb' 22 2)) (w.extractLsb' 0 5) ⟨(w.extractLsb' 10 3).setWidth 4, Style.merging⟩ (w.extractLsb' 0 5) (w.extractLsb' 5 5))
  | .fsubrPred => some (.fsubrPred (sizeOfCode (w.extractLsb' 22 2)) (w.extractLsb' 0 5) ⟨(w.extractLsb' 10 3).setWidth 4, Style.merging⟩ (w.extractLsb' 0 5) (w.extractLsb' 5 5))
  | .fmaxnmPred => some (.fmaxnmPred (sizeOfCode (w.extractLsb' 22 2)) (w.extractLsb' 0 5) ⟨(w.extractLsb' 10 3).setWidth 4, Style.merging⟩ (w.extractLsb' 0 5) (w.extractLsb' 5 5))
  | .fminnmPred => some (.fminnmPred (sizeOfCode (w.extractLsb' 22 2)) (w.extractLsb' 0 5) ⟨(w.extractLsb' 10 3).setWidth 4, Style.merging⟩ (w.extractLsb' 0 5) (w.extractLsb' 5 5))
  | .fmaxPred => some (.fmaxPred (sizeOfCode (w.extractLsb' 22 2)) (w.extractLsb' 0 5) ⟨(w.extractLsb' 10 3).setWidth 4, Style.merging⟩ (w.extractLsb' 0 5) (w.extractLsb' 5 5))
  | .fminPred => some (.fminPred (sizeOfCode (w.extractLsb' 22 2)) (w.extractLsb' 0 5) ⟨(w.extractLsb' 10 3).setWidth 4, Style.merging⟩ (w.extractLsb' 0 5) (w.extractLsb' 5 5))
  | .fabdPred => some (.fabdPred (sizeOfCode (w.extractLsb' 22 2)) (w.extractLsb' 0 5) ⟨(w.extractLsb' 10 3).setWidth 4, Style.merging⟩ (w.extractLsb' 0 5) (w.extractLsb' 5 5))
  | .fscalePred => some (.fscalePred (sizeOfCode (w.extractLsb' 22 2)) (w.extractLsb' 0 5) ⟨(w.extractLsb' 10 3).setWidth 4, Style.merging⟩ (w.extractLsb' 0 5) (w.extractLsb' 5 5))
  | .fmulxPred => some (.fmulxPred (sizeOfCode (w.extractLsb' 22 2)) (w.extractLsb' 0 5) ⟨(w.extractLsb' 10 3).setWidth 4, Style.merging⟩ (w.extractLsb' 0 5) (w.extractLsb' 5 5))
  | .fdivrPred => some (.fdivrPred (sizeOfCode (w.extractLsb' 22 2)) (w.extractLsb' 0 5) ⟨(w.extractLsb' 10 3).setWidth 4, Style.merging⟩ (w.extractLsb' 0 5) (w.extractLsb' 5 5))
  | .fdivPred => some (.fdivPred (sizeOfCode (w.extractLsb' 22 2)) (w.extractLsb' 0 5) ⟨(w.extractLsb' 10 3).setWidth 4, Style.merging⟩ (w.extractLsb' 0 5) (w.extractLsb' 5 5))
  | .fcmgeVec => some (.fcmgeVec (sizeOfCode (w.extractLsb' 22 2)) (w.extractLsb' 0 4) ⟨(w.extractLsb' 10 3).setWidth 4, Style.zeroing⟩ (w.extractLsb' 5 5) (w.extractLsb' 16 5))
  | .fcmgtVec => some (.fcmgtVec (sizeOfCode (w.extractLsb' 22 2)) (w.extractLsb' 0 4) ⟨(w.extractLsb' 10 3).setWidth 4, Style.zeroing⟩ (w.extractLsb' 5 5) (w.extractLsb' 16 5))
  | .fcmeqVec => some (.fcmeqVec (sizeOfCode (w.extractLsb' 22 2)) (w.extractLsb' 0 4) ⟨(w.extractLsb' 10 3).setWidth 4, Style.zeroing⟩ (w.extractLsb' 5 5) (w.extractLsb' 16 5))
  | .fcmneVec => some (.fcmneVec (sizeOfCode (w.extractLsb' 22 2)) (w.extractLsb' 0 4) ⟨(w.extractLsb' 10 3).setWidth 4, Style.zeroing⟩ (w.extractLsb' 5 5) (w.extractLsb' 16 5))
  | .fcmuoVec => some (.fcmuoVec (sizeOfCode (w.extractLsb' 22 2)) (w.extractLsb' 0 4) ⟨(w.extractLsb' 10 3).setWidth 4, Style.zeroing⟩ (w.extractLsb' 5 5) (w.extractLsb' 16 5))
  | .facgeVec => some (.facgeVec (sizeOfCode (w.extractLsb' 22 2)) (w.extractLsb' 0 4) ⟨(w.extractLsb' 10 3).setWidth 4, Style.zeroing⟩ (w.extractLsb' 5 5) (w.extractLsb' 16 5))
  | .facgtVec => some (.facgtVec (sizeOfCode (w.extractLsb' 22 2)) (w.extractLsb' 0 4) ⟨(w.extractLsb' 10 3).setWidth 4, Style.zeroing⟩ (w.extractLsb' 5 5) (w.extractLsb' 16 5))
  | .fcvt => some (.fcvt (fcvtSizes (w.extractLsb' 22 2) (w.extractLsb' 16 2)).1 (fcvtSizes (w.extractLsb' 22 2) (w.extractLsb' 16 2)).2 (w.extractLsb' 0 5) ⟨(w.extractLsb' 10 3).setWidth 4, Style.merging⟩ (w.extractLsb' 5 5))
  | .fcadd => some (.fcadd (sizeOfCode (w.extractLsb' 22 2)) (w.extractLsb' 0 5) ⟨(w.extractLsb' 10 3).setWidth 4, Style.merging⟩ (w.extractLsb' 0 5) (w.extractLsb' 5 5) (90 + 180 * (w.extractLsb' 16 1).setWidth 32))
  | .fcmla => some (.fcmla (sizeOfCode (w.extractLsb' 22 2)) (w.extractLsb' 0 5) ⟨(w.extractLsb' 10 3).setWidth 4, Style.merging⟩ (w.extractLsb' 5 5) (w.extractLsb' 16 5) (90 * (w.extractLsb' 13 2).setWidth 32))
  | .indexIi => some (.indexIi (sizeOfCode (w.extractLsb' 22 2)) (w.extractLsb' 0 5) ((w.extractLsb' 5 5).signExtend 32) ((w.extractLsb' 16 5).signExtend 32))
  | .indexRi => some (.indexRi (sizeOfCode (w.extractLsb' 22 2)) (w.extractLsb' 0 5) (w.extractLsb' 5 5) ((w.extractLsb' 16 5).signExtend 32))
  | .indexIr => some (.indexIr (sizeOfCode (w.extractLsb' 22 2)) (w.extractLsb' 0 5) ((w.extractLsb' 5 5).signExtend 32) (w.extractLsb' 16 5))
  | .indexRr => some (.indexRr (sizeOfCode (w.extractLsb' 22 2)) (w.extractLsb' 0 5) (w.extractLsb' 5 5) (w.extractLsb' 16 5))
  | .addvl => some (.addvl (w.extractLsb' 0 5) (w.extractLsb' 16 5) ((w.extractLsb' 5 6).signExtend 32))
  | .addpl => some (.addpl (w.extractLsb' 0 5) (w.extractLsb' 16 5) ((w.extractLsb' 5 6).signExtend 32))
  | .rdvl => some (.rdvl (w.extractLsb' 0 5) ((w.extractLsb' 5 6).signExtend 32))
  | .ftssel => some (.ftssel (sizeOfCode (w.extractLsb' 22 2)) (w.extractLsb' 0 5) (w.extractLsb' 5 5) (w.extractLsb' 16 5))
  | .fexpa => some (.fexpa (sizeOfCode (w.extractLsb' 22 2)) (w.extractLsb' 0 5) (w.extractLsb' 5 5))
  | .movprfxUnpred => some (.movprfxUnpred (w.extractLsb' 0 5) (w.extractLsb' 5 5))
  | .movprfxPred => some (.movprfxPred (sizeOfCode (w.extractLsb' 22 2)) (w.extractLsb' 0 5) ⟨(w.extractLsb' 10 3).setWidth 4, styleOfBit (w.extractLsb' 16 1)⟩ (w.extractLsb' 5 5))
  | .ld1b => none
  | .ld1sw => none
  | .ld1h => none
  | .ld1sh => none
  | .ld1w => none
  | .ld1sb => none
  | .ld1d => none
  | .st1b => none
  | .st1h => none
  | .st1w => none
  | .st1d => none

/-- The request a word names, or why it names none: the operation of its fixed bits, with the operands its
fields hold. Whether the operands are legal is the request's own matter (`Instr.wellFormed`): a word of
the block is the word of a legal request, and only of that one (R79). -/
def decodeWord (w : Word) : Except DecodeError Instr :=
  match identify w with
  | none => .error .noOperation
  | some op =>
    match build op w with
    | none => .error .noOperation
    | some i => .ok i

/-- The request whose word stands at the head of the bytes, and the bytes after it. -/
def decodeBytes (order : ByteOrder) : List Byte → Except DecodeError (Instr × List Byte)
  | b0 :: b1 :: b2 :: b3 :: rest =>
    match decodeWord (wordOfBytes order b0 b1 b2 b3) with
    | .ok i => .ok (i, rest)
    | .error e => .error e
  | _ => .error .truncated

/-- The request read from a table word: the word laid out in bytes in the default order, and decoded. -/
def decodeTableWord (nbits w : Nat) : Option Instr :=
  let v : Word := BitVec.ofNat 32 (w % 2 ^ nbits)
  match decodeBytes Config.defaultByteOrder
      [wordByte Config.defaultByteOrder v 0, wordByte Config.defaultByteOrder v 1,
       wordByte Config.defaultByteOrder v 2, wordByte Config.defaultByteOrder v 3] with
  | .ok (i, _) => some i
  | .error _ => none

/-- The word of a request: the row's `match` and its fields (R164, R178). For a request that violates a
precondition it is no word of the block: `Machine.exec` appends it only when every check passes. -/
def Instr.encode (i : Instr) : Word :=
  match i with
  | .addUnpred size zd zn zm => 0x04200000 ||| place (sizeField size) 22 ||| place zm 16 ||| place zn 5 ||| place zd 0
  | .subUnpred size zd zn zm => 0x04200400 ||| place (sizeField size) 22 ||| place zm 16 ||| place zn 5 ||| place zd 0
  | .sqaddUnpred size zd zn zm => 0x04201000 ||| place (sizeField size) 22 ||| place zm 16 ||| place zn 5 ||| place zd 0
  | .uqaddUnpred size zd zn zm => 0x04201400 ||| place (sizeField size) 22 ||| place zm 16 ||| place zn 5 ||| place zd 0
  | .sqsubUnpred size zd zn zm => 0x04201800 ||| place (sizeField size) 22 ||| place zm 16 ||| place zn 5 ||| place zd 0
  | .uqsubUnpred size zd zn zm => 0x04201C00 ||| place (sizeField size) 22 ||| place zm 16 ||| place zn 5 ||| place zd 0
  | .addPred size zd pg _ zm => 0x04000000 ||| place (sizeField size) 22 ||| place (pg.idx.setWidth 3) 10 ||| place zm 5 ||| place zd 0
  | .subPred size zd pg _ zm => 0x04010000 ||| place (sizeField size) 22 ||| place (pg.idx.setWidth 3) 10 ||| place zm 5 ||| place zd 0
  | .subrPred size zd pg _ zm => 0x04030000 ||| place (sizeField size) 22 ||| place (pg.idx.setWidth 3) 10 ||| place zm 5 ||| place zd 0
  | .smaxPred size zd pg _ zm => 0x04080000 ||| place (sizeField size) 22 ||| place (pg.idx.setWidth 3) 10 ||| place zm 5 ||| place zd 0
  | .umaxPred size zd pg _ zm => 0x04090000 ||| place (sizeField size) 22 ||| place (pg.idx.setWidth 3) 10 ||| place zm 5 ||| place zd 0
  | .sminPred size zd pg _ zm => 0x040A0000 ||| place (sizeField size) 22 ||| place (pg.idx.setWidth 3) 10 ||| place zm 5 ||| place zd 0
  | .uminPred size zd pg _ zm => 0x040B0000 ||| place (sizeField size) 22 ||| place (pg.idx.setWidth 3) 10 ||| place zm 5 ||| place zd 0
  | .sabdPred size zd pg _ zm => 0x040C0000 ||| place (sizeField size) 22 ||| place (pg.idx.setWidth 3) 10 ||| place zm 5 ||| place zd 0
  | .uabdPred size zd pg _ zm => 0x040D0000 ||| place (sizeField size) 22 ||| place (pg.idx.setWidth 3) 10 ||| place zm 5 ||| place zd 0
  | .orrPred size zd pg _ zm => 0x04180000 ||| place (sizeField size) 22 ||| place (pg.idx.setWidth 3) 10 ||| place zm 5 ||| place zd 0
  | .eorPred size zd pg _ zm => 0x04190000 ||| place (sizeField size) 22 ||| place (pg.idx.setWidth 3) 10 ||| place zm 5 ||| place zd 0
  | .andPred size zd pg _ zm => 0x041A0000 ||| place (sizeField size) 22 ||| place (pg.idx.setWidth 3) 10 ||| place zm 5 ||| place zd 0
  | .bicPred size zd pg _ zm => 0x041B0000 ||| place (sizeField size) 22 ||| place (pg.idx.setWidth 3) 10 ||| place zm 5 ||| place zd 0
  | .andUnpred zd zn zm => 0x04203000 ||| place zm 16 ||| place zn 5 ||| place zd 0
  | .orrUnpred zd zn zm => 0x04603000 ||| place zm 16 ||| place zn 5 ||| place zd 0
  | .eorUnpred zd zn zm => 0x04A03000 ||| place zm 16 ||| place zn 5 ||| place zd 0
  | .bicUnpred zd zn zm => 0x04E03000 ||| place zm 16 ||| place zn 5 ||| place zd 0
  | .cadd size zd _ zm rot => 0x4500D800 ||| place (sizeField size) 22 ||| place (BitVec.ofBool (rot == 270)) 10 ||| place zm 5 ||| place zd 0
  | .sqcadd size zd _ zm rot => 0x4501D800 ||| place (sizeField size) 22 ||| place (BitVec.ofBool (rot == 270)) 10 ||| place zm 5 ||| place zd 0
  | .cmla size zda zn zm rot => 0x44002000 ||| place (sizeField size) 22 ||| place zm 16 ||| place ((rot / 90).setWidth 2) 10 ||| place zn 5 ||| place zda 0
  | .cmpgeImm size pd pg zn imm => 0x25000000 ||| place (sizeField size) 22 ||| place (BitVec.ofInt 5 imm.toInt) 16 ||| place (pg.idx.setWidth 3) 10 ||| place zn 5 ||| place pd 0
  | .cmpgtImm size pd pg zn imm => 0x25000010 ||| place (sizeField size) 22 ||| place (BitVec.ofInt 5 imm.toInt) 16 ||| place (pg.idx.setWidth 3) 10 ||| place zn 5 ||| place pd 0
  | .cmpltImm size pd pg zn imm => 0x25002000 ||| place (sizeField size) 22 ||| place (BitVec.ofInt 5 imm.toInt) 16 ||| place (pg.idx.setWidth 3) 10 ||| place zn 5 ||| place pd 0
  | .cmpleImm size pd pg zn imm => 0x25002010 ||| place (sizeField size) 22 ||| place (BitVec.ofInt 5 imm.toInt) 16 ||| place (pg.idx.setWidth 3) 10 ||| place zn 5 ||| place pd 0
  | .cmpeqImm size pd pg zn imm => 0x25008000 ||| place (sizeField size) 22 ||| place (BitVec.ofInt 5 imm.toInt) 16 ||| place (pg.idx.setWidth 3) 10 ||| place zn 5 ||| place pd 0
  | .cmpneImm size pd pg zn imm => 0x25008010 ||| place (sizeField size) 22 ||| place (BitVec.ofInt 5 imm.toInt) 16 ||| place (pg.idx.setWidth 3) 10 ||| place zn 5 ||| place pd 0
  | .cmphsImm size pd pg zn imm => 0x24200000 ||| place (sizeField size) 22 ||| place (imm.setWidth 7) 14 ||| place (pg.idx.setWidth 3) 10 ||| place zn 5 ||| place pd 0
  | .cmphiImm size pd pg zn imm => 0x24200010 ||| place (sizeField size) 22 ||| place (imm.setWidth 7) 14 ||| place (pg.idx.setWidth 3) 10 ||| place zn 5 ||| place pd 0
  | .cmploImm size pd pg zn imm => 0x24202000 ||| place (sizeField size) 22 ||| place (imm.setWidth 7) 14 ||| place (pg.idx.setWidth 3) 10 ||| place zn 5 ||| place pd 0
  | .cmplsImm size pd pg zn imm => 0x24202010 ||| place (sizeField size) 22 ||| place (imm.setWidth 7) 14 ||| place (pg.idx.setWidth 3) 10 ||| place zn 5 ||| place pd 0
  | .cmphsVec size pd pg zn zm => 0x24000000 ||| place (sizeField size) 22 ||| place zm 16 ||| place (pg.idx.setWidth 3) 10 ||| place zn 5 ||| place pd 0
  | .cmphiVec size pd pg zn zm => 0x24000010 ||| place (sizeField size) 22 ||| place zm 16 ||| place (pg.idx.setWidth 3) 10 ||| place zn 5 ||| place pd 0
  | .cmpgeVec size pd pg zn zm => 0x24008000 ||| place (sizeField size) 22 ||| place zm 16 ||| place (pg.idx.setWidth 3) 10 ||| place zn 5 ||| place pd 0
  | .cmpgtVec size pd pg zn zm => 0x24008010 ||| place (sizeField size) 22 ||| place zm 16 ||| place (pg.idx.setWidth 3) 10 ||| place zn 5 ||| place pd 0
  | .cmpeqVec size pd pg zn zm => 0x2400A000 ||| place (sizeField size) 22 ||| place zm 16 ||| place (pg.idx.setWidth 3) 10 ||| place zn 5 ||| place pd 0
  | .cmpneVec size pd pg zn zm => 0x2400A010 ||| place (sizeField size) 22 ||| place zm 16 ||| place (pg.idx.setWidth 3) 10 ||| place zn 5 ||| place pd 0
  | .zip1 size zd zn zm => 0x05206000 ||| place (sizeField size) 22 ||| place zm 16 ||| place zn 5 ||| place zd 0
  | .zip2 size zd zn zm => 0x05206400 ||| place (sizeField size) 22 ||| place zm 16 ||| place zn 5 ||| place zd 0
  | .uzp1 size zd zn zm => 0x05206800 ||| place (sizeField size) 22 ||| place zm 16 ||| place zn 5 ||| place zd 0
  | .uzp2 size zd zn zm => 0x05206C00 ||| place (sizeField size) 22 ||| place zm 16 ||| place zn 5 ||| place zd 0
  | .trn1 size zd zn zm => 0x05207000 ||| place (sizeField size) 22 ||| place zm 16 ||| place zn 5 ||| place zd 0
  | .trn2 size zd zn zm => 0x05207400 ||| place (sizeField size) 22 ||| place zm 16 ||| place zn 5 ||| place zd 0
  | .tbl size zd zn zm => 0x05203000 ||| place (sizeField size) 22 ||| place zm 16 ||| place zn 5 ||| place zd 0
  | .tbx size zd zn zm => 0x05202C00 ||| place (sizeField size) 22 ||| place zm 16 ||| place zn 5 ||| place zd 0
  | .dupIndexed size zd zn index => let v7 := indexedImmediate size index; 0x05202000 ||| place (v7.extractLsb' 5 2) 22 ||| place (v7.extractLsb' 0 5) 16 ||| place zn 5 ||| place zd 0
  | .extDestructive zd _ zm imm => 0x05200000 ||| place (imm.extractLsb' 3 5) 16 ||| place (imm.extractLsb' 0 3) 10 ||| place zm 5 ||| place zd 0
  | .extConstructive zd zn _ imm => 0x05600000 ||| place (imm.extractLsb' 3 5) 16 ||| place (imm.extractLsb' 0 3) 10 ||| place zn 5 ||| place zd 0
  | .spliceDestructive size zd pv _ zm => 0x052C8000 ||| place (sizeField size) 22 ||| place (pv.idx.setWidth 3) 10 ||| place zm 5 ||| place zd 0
  | .spliceConstructive size zd pv zn _ => 0x052D8000 ||| place (sizeField size) 22 ||| place (pv.idx.setWidth 3) 10 ||| place zn 5 ||| place zd 0
  | .mulPred size zd pg _ zm => 0x04100000 ||| place (sizeField size) 22 ||| place (pg.idx.setWidth 3) 10 ||| place zm 5 ||| place zd 0
  | .smulhPred size zd pg _ zm => 0x04120000 ||| place (sizeField size) 22 ||| place (pg.idx.setWidth 3) 10 ||| place zm 5 ||| place zd 0
  | .umulhPred size zd pg _ zm => 0x04130000 ||| place (sizeField size) 22 ||| place (pg.idx.setWidth 3) 10 ||| place zm 5 ||| place zd 0
  | .sdivPred size zd pg _ zm => 0x04140000 ||| place (sizeField size) 22 ||| place (pg.idx.setWidth 3) 10 ||| place zm 5 ||| place zd 0
  | .udivPred size zd pg _ zm => 0x04150000 ||| place (sizeField size) 22 ||| place (pg.idx.setWidth 3) 10 ||| place zm 5 ||| place zd 0
  | .sdivrPred size zd pg _ zm => 0x04160000 ||| place (sizeField size) 22 ||| place (pg.idx.setWidth 3) 10 ||| place zm 5 ||| place zd 0
  | .udivrPred size zd pg _ zm => 0x04170000 ||| place (sizeField size) 22 ||| place (pg.idx.setWidth 3) 10 ||| place zm 5 ||| place zd 0
  | .saddv size vd pg zn => 0x04002000 ||| place (sizeField size) 22 ||| place (pg.idx.setWidth 3) 10 ||| place zn 5 ||| place vd 0
  | .uaddv size vd pg zn => 0x04012000 ||| place (sizeField size) 22 ||| place (pg.idx.setWidth 3) 10 ||| place zn 5 ||| place vd 0
  | .smaxv size vd pg zn => 0x04082000 ||| place (sizeField size) 22 ||| place (pg.idx.setWidth 3) 10 ||| place zn 5 ||| place vd 0
  | .umaxv size vd pg zn => 0x04092000 ||| place (sizeField size) 22 ||| place (pg.idx.setWidth 3) 10 ||| place zn 5 ||| place vd 0
  | .sminv size vd pg zn => 0x040A2000 ||| place (sizeField size) 22 ||| place (pg.idx.setWidth 3) 10 ||| place zn 5 ||| place vd 0
  | .uminv size vd pg zn => 0x040B2000 ||| place (sizeField size) 22 ||| place (pg.idx.setWidth 3) 10 ||| place zn 5 ||| place vd 0
  | .orv size vd pg zn => 0x04182000 ||| place (sizeField size) 22 ||| place (pg.idx.setWidth 3) 10 ||| place zn 5 ||| place vd 0
  | .eorv size vd pg zn => 0x04192000 ||| place (sizeField size) 22 ||| place (pg.idx.setWidth 3) 10 ||| place zn 5 ||| place vd 0
  | .andv size vd pg zn => 0x041A2000 ||| place (sizeField size) 22 ||| place (pg.idx.setWidth 3) 10 ||| place zn 5 ||| place vd 0
  | .andP pd pg pn pm => 0x25004000 ||| place pm 16 ||| place pg.idx 10 ||| place pn 5 ||| place pd 0
  | .bicP pd pg pn pm => 0x25004010 ||| place pm 16 ||| place pg.idx 10 ||| place pn 5 ||| place pd 0
  | .eorP pd pg pn pm => 0x25004200 ||| place pm 16 ||| place pg.idx 10 ||| place pn 5 ||| place pd 0
  | .selP pd pg pn pm => 0x25004210 ||| place pm 16 ||| place pg.idx 10 ||| place pn 5 ||| place pd 0
  | .orrP pd pg pn pm => 0x25804000 ||| place pm 16 ||| place pg.idx 10 ||| place pn 5 ||| place pd 0
  | .ornP pd pg pn pm => 0x25804010 ||| place pm 16 ||| place pg.idx 10 ||| place pn 5 ||| place pd 0
  | .norP pd pg pn pm => 0x25804200 ||| place pm 16 ||| place pg.idx 10 ||| place pn 5 ||| place pd 0
  | .nandP pd pg pn pm => 0x25804210 ||| place pm 16 ||| place pg.idx 10 ||| place pn 5 ||| place pd 0
  | .andsP pd pg pn pm => 0x25404000 ||| place pm 16 ||| place pg.idx 10 ||| place pn 5 ||| place pd 0
  | .bicsP pd pg pn pm => 0x25404010 ||| place pm 16 ||| place pg.idx 10 ||| place pn 5 ||| place pd 0
  | .eorsP pd pg pn pm => 0x25404200 ||| place pm 16 ||| place pg.idx 10 ||| place pn 5 ||| place pd 0
  | .orrsP pd pg pn pm => 0x25C04000 ||| place pm 16 ||| place pg.idx 10 ||| place pn 5 ||| place pd 0
  | .ornsP pd pg pn pm => 0x25C04010 ||| place pm 16 ||| place pg.idx 10 ||| place pn 5 ||| place pd 0
  | .norsP pd pg pn pm => 0x25C04200 ||| place pm 16 ||| place pg.idx 10 ||| place pn 5 ||| place pd 0
  | .nandsP pd pg pn pm => 0x25C04210 ||| place pm 16 ||| place pg.idx 10 ||| place pn 5 ||| place pd 0
  | .brkpa pd pg pn pm => 0x2500C000 ||| place pm 16 ||| place pg.idx 10 ||| place pn 5 ||| place pd 0
  | .brkpb pd pg pn pm => 0x2500C010 ||| place pm 16 ||| place pg.idx 10 ||| place pn 5 ||| place pd 0
  | .brkpas pd pg pn pm => 0x2540C000 ||| place pm 16 ||| place pg.idx 10 ||| place pn 5 ||| place pd 0
  | .brkpbs pd pg pn pm => 0x2540C010 ||| place pm 16 ||| place pg.idx 10 ||| place pn 5 ||| place pd 0
  | .brka pd pg pn => 0x25104000 ||| place pg.idx 10 ||| place pn 5 ||| place (BitVec.ofBool (pg.style == Style.merging)) 4 ||| place pd 0
  | .brkas pd pg pn => 0x25504000 ||| place pg.idx 10 ||| place pn 5 ||| place pd 0
  | .brkb pd pg pn => 0x25904000 ||| place pg.idx 10 ||| place pn 5 ||| place (BitVec.ofBool (pg.style == Style.merging)) 4 ||| place pd 0
  | .brkbs pd pg pn => 0x25D04000 ||| place pg.idx 10 ||| place pn 5 ||| place pd 0
  | .brkn pd pg pn _ => 0x25184000 ||| place pg.idx 10 ||| place pn 5 ||| place pd 0
  | .brkns pd pg pn _ => 0x25584000 ||| place pg.idx 10 ||| place pn 5 ||| place pd 0
  | .ptrue size pd pattern => 0x2518E000 ||| place (sizeField size) 22 ||| place (pattern.setWidth 5) 5 ||| place pd 0
  | .ptrues size pd pattern => 0x2519E000 ||| place (sizeField size) 22 ||| place (pattern.setWidth 5) 5 ||| place pd 0
  | .pfalse pd => 0x2518E400 ||| place pd 0
  | .ptest pg pn => 0x2550C000 ||| place pg.idx 10 ||| place pn 5
  | .pfirst pd pg _ => 0x2558C000 ||| place pg.idx 5 ||| place pd 0
  | .pnext size pd pg _ => 0x2519C400 ||| place (sizeField size) 22 ||| place pg.idx 5 ||| place pd 0
  | .rdffrUnpred pd => 0x2519F000 ||| place pd 0
  | .rdffrPred pd pg => 0x2518F000 ||| place pg.idx 5 ||| place pd 0
  | .rdffrsPred pd pg => 0x2558F000 ||| place pg.idx 5 ||| place pd 0
  | .setffr => 0x252C9000
  | .wrffr pn => 0x25289000 ||| place pn 5
  | .ld1bSs size zt pg rn rm => 0xA4004000 ||| place (sizeField4 size) 21 ||| place rm 16 ||| place (pg.idx.setWidth 3) 10 ||| place rn 5 ||| place zt 0
  | .ld1bSi size zt pg rn imm => 0xA400A000 ||| place (sizeField4 size) 21 ||| place (BitVec.ofInt 4 imm.toInt) 16 ||| place (pg.idx.setWidth 3) 10 ||| place rn 5 ||| place zt 0
  | .ld1swSs _ zt pg rn rm => 0xA4004000 ||| place 0b0100#4 21 ||| place rm 16 ||| place (pg.idx.setWidth 3) 10 ||| place rn 5 ||| place zt 0
  | .ld1swSi _ zt pg rn imm => 0xA400A000 ||| place 0b0100#4 21 ||| place (BitVec.ofInt 4 imm.toInt) 16 ||| place (pg.idx.setWidth 3) 10 ||| place rn 5 ||| place zt 0
  | .ld1hSs size zt pg rn rm => 0xA4004000 ||| place (0b0100 + sizeField4 size) 21 ||| place rm 16 ||| place (pg.idx.setWidth 3) 10 ||| place rn 5 ||| place zt 0
  | .ld1hSi size zt pg rn imm => 0xA400A000 ||| place (0b0100 + sizeField4 size) 21 ||| place (BitVec.ofInt 4 imm.toInt) 16 ||| place (pg.idx.setWidth 3) 10 ||| place rn 5 ||| place zt 0
  | .ld1shSs size zt pg rn rm => 0xA4004000 ||| place (0b1011 - sizeField4 size) 21 ||| place rm 16 ||| place (pg.idx.setWidth 3) 10 ||| place rn 5 ||| place zt 0
  | .ld1shSi size zt pg rn imm => 0xA400A000 ||| place (0b1011 - sizeField4 size) 21 ||| place (BitVec.ofInt 4 imm.toInt) 16 ||| place (pg.idx.setWidth 3) 10 ||| place rn 5 ||| place zt 0
  | .ld1wSs size zt pg rn rm => 0xA4004000 ||| place (0b1000 + sizeField4 size) 21 ||| place rm 16 ||| place (pg.idx.setWidth 3) 10 ||| place rn 5 ||| place zt 0
  | .ld1wSi size zt pg rn imm => 0xA400A000 ||| place (0b1000 + sizeField4 size) 21 ||| place (BitVec.ofInt 4 imm.toInt) 16 ||| place (pg.idx.setWidth 3) 10 ||| place rn 5 ||| place zt 0
  | .ld1sbSs size zt pg rn rm => 0xA4004000 ||| place (0b1111 - sizeField4 size) 21 ||| place rm 16 ||| place (pg.idx.setWidth 3) 10 ||| place rn 5 ||| place zt 0
  | .ld1sbSi size zt pg rn imm => 0xA400A000 ||| place (0b1111 - sizeField4 size) 21 ||| place (BitVec.ofInt 4 imm.toInt) 16 ||| place (pg.idx.setWidth 3) 10 ||| place rn 5 ||| place zt 0
  | .ld1dSs _ zt pg rn rm => 0xA4004000 ||| place 0b1111#4 21 ||| place rm 16 ||| place (pg.idx.setWidth 3) 10 ||| place rn 5 ||| place zt 0
  | .ld1dSi _ zt pg rn imm => 0xA400A000 ||| place 0b1111#4 21 ||| place (BitVec.ofInt 4 imm.toInt) 16 ||| place (pg.idx.setWidth 3) 10 ||| place rn 5 ||| place zt 0
  | .st1bSs size zt pg rn rm => 0xE4004000 ||| place (sizeField size) 21 ||| place rm 16 ||| place (pg.idx.setWidth 3) 10 ||| place rn 5 ||| place zt 0
  | .st1bSi size zt pg rn imm => 0xE400E000 ||| place (sizeField size) 21 ||| place (BitVec.ofInt 4 imm.toInt) 16 ||| place (pg.idx.setWidth 3) 10 ||| place rn 5 ||| place zt 0
  | .st1hSs size zt pg rn rm => 0xE4804000 ||| place (sizeField size) 21 ||| place rm 16 ||| place (pg.idx.setWidth 3) 10 ||| place rn 5 ||| place zt 0
  | .st1hSi size zt pg rn imm => 0xE480E000 ||| place (sizeField size) 21 ||| place (BitVec.ofInt 4 imm.toInt) 16 ||| place (pg.idx.setWidth 3) 10 ||| place rn 5 ||| place zt 0
  | .st1wSs size zt pg rn rm => 0xE5004000 ||| place (sizeField size) 21 ||| place rm 16 ||| place (pg.idx.setWidth 3) 10 ||| place rn 5 ||| place zt 0
  | .st1wSi size zt pg rn imm => 0xE500E000 ||| place (sizeField size) 21 ||| place (BitVec.ofInt 4 imm.toInt) 16 ||| place (pg.idx.setWidth 3) 10 ||| place rn 5 ||| place zt 0
  | .st1dSs size zt pg rn rm => 0xE5804000 ||| place (sizeField size) 21 ||| place rm 16 ||| place (pg.idx.setWidth 3) 10 ||| place rn 5 ||| place zt 0
  | .st1dSi size zt pg rn imm => 0xE580E000 ||| place (sizeField size) 21 ||| place (BitVec.ofInt 4 imm.toInt) 16 ||| place (pg.idx.setWidth 3) 10 ||| place rn 5 ||| place zt 0
  | .ld2bSs zt1 _ pg rn rm => 0xA420C000 ||| place rm 16 ||| place (pg.idx.setWidth 3) 10 ||| place rn 5 ||| place zt1 0
  | .ld2bSi zt1 _ pg rn imm => 0xA420E000 ||| place (BitVec.ofInt 4 (imm.toInt / 2)) 16 ||| place (pg.idx.setWidth 3) 10 ||| place rn 5 ||| place zt1 0
  | .ld2hSs zt1 _ pg rn rm => 0xA4A0C000 ||| place rm 16 ||| place (pg.idx.setWidth 3) 10 ||| place rn 5 ||| place zt1 0
  | .ld2hSi zt1 _ pg rn imm => 0xA4A0E000 ||| place (BitVec.ofInt 4 (imm.toInt / 2)) 16 ||| place (pg.idx.setWidth 3) 10 ||| place rn 5 ||| place zt1 0
  | .ld2wSs zt1 _ pg rn rm => 0xA520C000 ||| place rm 16 ||| place (pg.idx.setWidth 3) 10 ||| place rn 5 ||| place zt1 0
  | .ld2wSi zt1 _ pg rn imm => 0xA520E000 ||| place (BitVec.ofInt 4 (imm.toInt / 2)) 16 ||| place (pg.idx.setWidth 3) 10 ||| place rn 5 ||| place zt1 0
  | .ld2dSs zt1 _ pg rn rm => 0xA5A0C000 ||| place rm 16 ||| place (pg.idx.setWidth 3) 10 ||| place rn 5 ||| place zt1 0
  | .ld2dSi zt1 _ pg rn imm => 0xA5A0E000 ||| place (BitVec.ofInt 4 (imm.toInt / 2)) 16 ||| place (pg.idx.setWidth 3) 10 ||| place rn 5 ||| place zt1 0
  | .ld3bSs zt1 _ _ pg rn rm => 0xA440C000 ||| place rm 16 ||| place (pg.idx.setWidth 3) 10 ||| place rn 5 ||| place zt1 0
  | .ld3bSi zt1 _ _ pg rn imm => 0xA440E000 ||| place (BitVec.ofInt 4 (imm.toInt / 3)) 16 ||| place (pg.idx.setWidth 3) 10 ||| place rn 5 ||| place zt1 0
  | .ld3hSs zt1 _ _ pg rn rm => 0xA4C0C000 ||| place rm 16 ||| place (pg.idx.setWidth 3) 10 ||| place rn 5 ||| place zt1 0
  | .ld3hSi zt1 _ _ pg rn imm => 0xA4C0E000 ||| place (BitVec.ofInt 4 (imm.toInt / 3)) 16 ||| place (pg.idx.setWidth 3) 10 ||| place rn 5 ||| place zt1 0
  | .ld3wSs zt1 _ _ pg rn rm => 0xA540C000 ||| place rm 16 ||| place (pg.idx.setWidth 3) 10 ||| place rn 5 ||| place zt1 0
  | .ld3wSi zt1 _ _ pg rn imm => 0xA540E000 ||| place (BitVec.ofInt 4 (imm.toInt / 3)) 16 ||| place (pg.idx.setWidth 3) 10 ||| place rn 5 ||| place zt1 0
  | .ld3dSs zt1 _ _ pg rn rm => 0xA5C0C000 ||| place rm 16 ||| place (pg.idx.setWidth 3) 10 ||| place rn 5 ||| place zt1 0
  | .ld3dSi zt1 _ _ pg rn imm => 0xA5C0E000 ||| place (BitVec.ofInt 4 (imm.toInt / 3)) 16 ||| place (pg.idx.setWidth 3) 10 ||| place rn 5 ||| place zt1 0
  | .ld4bSs zt1 _ _ _ pg rn rm => 0xA460C000 ||| place rm 16 ||| place (pg.idx.setWidth 3) 10 ||| place rn 5 ||| place zt1 0
  | .ld4bSi zt1 _ _ _ pg rn imm => 0xA460E000 ||| place (BitVec.ofInt 4 (imm.toInt / 4)) 16 ||| place (pg.idx.setWidth 3) 10 ||| place rn 5 ||| place zt1 0
  | .ld4hSs zt1 _ _ _ pg rn rm => 0xA4E0C000 ||| place rm 16 ||| place (pg.idx.setWidth 3) 10 ||| place rn 5 ||| place zt1 0
  | .ld4hSi zt1 _ _ _ pg rn imm => 0xA4E0E000 ||| place (BitVec.ofInt 4 (imm.toInt / 4)) 16 ||| place (pg.idx.setWidth 3) 10 ||| place rn 5 ||| place zt1 0
  | .ld4wSs zt1 _ _ _ pg rn rm => 0xA560C000 ||| place rm 16 ||| place (pg.idx.setWidth 3) 10 ||| place rn 5 ||| place zt1 0
  | .ld4wSi zt1 _ _ _ pg rn imm => 0xA560E000 ||| place (BitVec.ofInt 4 (imm.toInt / 4)) 16 ||| place (pg.idx.setWidth 3) 10 ||| place rn 5 ||| place zt1 0
  | .ld4dSs zt1 _ _ _ pg rn rm => 0xA5E0C000 ||| place rm 16 ||| place (pg.idx.setWidth 3) 10 ||| place rn 5 ||| place zt1 0
  | .ld4dSi zt1 _ _ _ pg rn imm => 0xA5E0E000 ||| place (BitVec.ofInt 4 (imm.toInt / 4)) 16 ||| place (pg.idx.setWidth 3) 10 ||| place rn 5 ||| place zt1 0
  | .st2bSs zt1 _ pg rn rm => 0xE4206000 ||| place rm 16 ||| place (pg.idx.setWidth 3) 10 ||| place rn 5 ||| place zt1 0
  | .st2bSi zt1 _ pg rn imm => 0xE430E000 ||| place (BitVec.ofInt 4 (imm.toInt / 2)) 16 ||| place (pg.idx.setWidth 3) 10 ||| place rn 5 ||| place zt1 0
  | .st2hSs zt1 _ pg rn rm => 0xE4A06000 ||| place rm 16 ||| place (pg.idx.setWidth 3) 10 ||| place rn 5 ||| place zt1 0
  | .st2hSi zt1 _ pg rn imm => 0xE4B0E000 ||| place (BitVec.ofInt 4 (imm.toInt / 2)) 16 ||| place (pg.idx.setWidth 3) 10 ||| place rn 5 ||| place zt1 0
  | .st2wSs zt1 _ pg rn rm => 0xE5206000 ||| place rm 16 ||| place (pg.idx.setWidth 3) 10 ||| place rn 5 ||| place zt1 0
  | .st2wSi zt1 _ pg rn imm => 0xE530E000 ||| place (BitVec.ofInt 4 (imm.toInt / 2)) 16 ||| place (pg.idx.setWidth 3) 10 ||| place rn 5 ||| place zt1 0
  | .st2dSs zt1 _ pg rn rm => 0xE5A06000 ||| place rm 16 ||| place (pg.idx.setWidth 3) 10 ||| place rn 5 ||| place zt1 0
  | .st2dSi zt1 _ pg rn imm => 0xE5B0E000 ||| place (BitVec.ofInt 4 (imm.toInt / 2)) 16 ||| place (pg.idx.setWidth 3) 10 ||| place rn 5 ||| place zt1 0
  | .st3bSs zt1 _ _ pg rn rm => 0xE4406000 ||| place rm 16 ||| place (pg.idx.setWidth 3) 10 ||| place rn 5 ||| place zt1 0
  | .st3bSi zt1 _ _ pg rn imm => 0xE450E000 ||| place (BitVec.ofInt 4 (imm.toInt / 3)) 16 ||| place (pg.idx.setWidth 3) 10 ||| place rn 5 ||| place zt1 0
  | .st3hSs zt1 _ _ pg rn rm => 0xE4C06000 ||| place rm 16 ||| place (pg.idx.setWidth 3) 10 ||| place rn 5 ||| place zt1 0
  | .st3hSi zt1 _ _ pg rn imm => 0xE4D0E000 ||| place (BitVec.ofInt 4 (imm.toInt / 3)) 16 ||| place (pg.idx.setWidth 3) 10 ||| place rn 5 ||| place zt1 0
  | .st3wSs zt1 _ _ pg rn rm => 0xE5406000 ||| place rm 16 ||| place (pg.idx.setWidth 3) 10 ||| place rn 5 ||| place zt1 0
  | .st3wSi zt1 _ _ pg rn imm => 0xE550E000 ||| place (BitVec.ofInt 4 (imm.toInt / 3)) 16 ||| place (pg.idx.setWidth 3) 10 ||| place rn 5 ||| place zt1 0
  | .st3dSs zt1 _ _ pg rn rm => 0xE5C06000 ||| place rm 16 ||| place (pg.idx.setWidth 3) 10 ||| place rn 5 ||| place zt1 0
  | .st3dSi zt1 _ _ pg rn imm => 0xE5D0E000 ||| place (BitVec.ofInt 4 (imm.toInt / 3)) 16 ||| place (pg.idx.setWidth 3) 10 ||| place rn 5 ||| place zt1 0
  | .st4bSs zt1 _ _ _ pg rn rm => 0xE4606000 ||| place rm 16 ||| place (pg.idx.setWidth 3) 10 ||| place rn 5 ||| place zt1 0
  | .st4bSi zt1 _ _ _ pg rn imm => 0xE470E000 ||| place (BitVec.ofInt 4 (imm.toInt / 4)) 16 ||| place (pg.idx.setWidth 3) 10 ||| place rn 5 ||| place zt1 0
  | .st4hSs zt1 _ _ _ pg rn rm => 0xE4E06000 ||| place rm 16 ||| place (pg.idx.setWidth 3) 10 ||| place rn 5 ||| place zt1 0
  | .st4hSi zt1 _ _ _ pg rn imm => 0xE4F0E000 ||| place (BitVec.ofInt 4 (imm.toInt / 4)) 16 ||| place (pg.idx.setWidth 3) 10 ||| place rn 5 ||| place zt1 0
  | .st4wSs zt1 _ _ _ pg rn rm => 0xE5606000 ||| place rm 16 ||| place (pg.idx.setWidth 3) 10 ||| place rn 5 ||| place zt1 0
  | .st4wSi zt1 _ _ _ pg rn imm => 0xE570E000 ||| place (BitVec.ofInt 4 (imm.toInt / 4)) 16 ||| place (pg.idx.setWidth 3) 10 ||| place rn 5 ||| place zt1 0
  | .st4dSs zt1 _ _ _ pg rn rm => 0xE5E06000 ||| place rm 16 ||| place (pg.idx.setWidth 3) 10 ||| place rn 5 ||| place zt1 0
  | .st4dSi zt1 _ _ _ pg rn imm => 0xE5F0E000 ||| place (BitVec.ofInt 4 (imm.toInt / 4)) 16 ||| place (pg.idx.setWidth 3) 10 ||| place rn 5 ||| place zt1 0
  | .asrImmPred size zd pg _ shift => let t := shiftFields size.toInt shift.toInt false; 0x04008000 ||| place t.high 22 ||| place (pg.idx.setWidth 3) 10 ||| place t.low 8 ||| place t.res 5 ||| place zd 0
  | .lsrImmPred size zd pg _ shift => let t := shiftFields size.toInt shift.toInt false; 0x04018000 ||| place t.high 22 ||| place (pg.idx.setWidth 3) 10 ||| place t.low 8 ||| place t.res 5 ||| place zd 0
  | .lslImmPred size zd pg _ shift => let t := shiftFields size.toInt shift.toInt true; 0x04038000 ||| place t.high 22 ||| place (pg.idx.setWidth 3) 10 ||| place t.low 8 ||| place t.res 5 ||| place zd 0
  | .asrdImmPred size zd pg _ shift => let t := shiftFields size.toInt shift.toInt false; 0x04048000 ||| place t.high 22 ||| place (pg.idx.setWidth 3) 10 ||| place t.low 8 ||| place t.res 5 ||| place zd 0
  | .sqshlImmPred size zd pg _ shift => let t := shiftFields size.toInt shift.toInt true; 0x04068000 ||| place t.high 22 ||| place (pg.idx.setWidth 3) 10 ||| place t.low 8 ||| place t.res 5 ||| place zd 0
  | .uqshlImmPred size zd pg _ shift => let t := shiftFields size.toInt shift.toInt true; 0x04078000 ||| place t.high 22 ||| place (pg.idx.setWidth 3) 10 ||| place t.low 8 ||| place t.res 5 ||| place zd 0
  | .srshrImmPred size zd pg _ shift => let t := shiftFields size.toInt shift.toInt false; 0x040C8000 ||| place t.high 22 ||| place (pg.idx.setWidth 3) 10 ||| place t.low 8 ||| place t.res 5 ||| place zd 0
  | .urshrImmPred size zd pg _ shift => let t := shiftFields size.toInt shift.toInt false; 0x040D8000 ||| place t.high 22 ||| place (pg.idx.setWidth 3) 10 ||| place t.low 8 ||| place t.res 5 ||| place zd 0
  | .sqshluImmPred size zd pg _ shift => let t := shiftFields size.toInt shift.toInt true; 0x040F8000 ||| place t.high 22 ||| place (pg.idx.setWidth 3) 10 ||| place t.low 8 ||| place t.res 5 ||| place zd 0
  | .asrImmUnpred size zd zn shift => let t := shiftFields size.toInt shift.toInt false; 0x04209000 ||| place t.high 22 ||| place t.low 19 ||| place t.res 16 ||| place zn 5 ||| place zd 0
  | .lsrImmUnpred size zd zn shift => let t := shiftFields size.toInt shift.toInt false; 0x04209400 ||| place t.high 22 ||| place t.low 19 ||| place t.res 16 ||| place zn 5 ||| place zd 0
  | .lslImmUnpred size zd zn shift => let t := shiftFields size.toInt shift.toInt true; 0x04209C00 ||| place t.high 22 ||| place t.low 19 ||| place t.res 16 ||| place zn 5 ||| place zd 0
  | .asrVecPred size zd pg _ zm => 0x04108000 ||| place (sizeField size) 22 ||| place (pg.idx.setWidth 3) 10 ||| place zm 5 ||| place zd 0
  | .lsrVecPred size zd pg _ zm => 0x04118000 ||| place (sizeField size) 22 ||| place (pg.idx.setWidth 3) 10 ||| place zm 5 ||| place zd 0
  | .lslVecPred size zd pg _ zm => 0x04138000 ||| place (sizeField size) 22 ||| place (pg.idx.setWidth 3) 10 ||| place zm 5 ||| place zd 0
  | .asrrVecPred size zd pg _ zm => 0x04148000 ||| place (sizeField size) 22 ||| place (pg.idx.setWidth 3) 10 ||| place zm 5 ||| place zd 0
  | .lsrrVecPred size zd pg _ zm => 0x04158000 ||| place (sizeField size) 22 ||| place (pg.idx.setWidth 3) 10 ||| place zm 5 ||| place zd 0
  | .lslrVecPred size zd pg _ zm => 0x04178000 ||| place (sizeField size) 22 ||| place (pg.idx.setWidth 3) 10 ||| place zm 5 ||| place zd 0
  | .asrWidePred size zd pg _ zm => 0x04188000 ||| place (sizeField size) 22 ||| place (pg.idx.setWidth 3) 10 ||| place zm 5 ||| place zd 0
  | .lsrWidePred size zd pg _ zm => 0x04198000 ||| place (sizeField size) 22 ||| place (pg.idx.setWidth 3) 10 ||| place zm 5 ||| place zd 0
  | .lslWidePred size zd pg _ zm => 0x041B8000 ||| place (sizeField size) 22 ||| place (pg.idx.setWidth 3) 10 ||| place zm 5 ||| place zd 0
  | .asrWideUnpred size zd zn zm => 0x04208000 ||| place (sizeField size) 22 ||| place zm 16 ||| place zn 5 ||| place zd 0
  | .lsrWideUnpred size zd zn zm => 0x04208400 ||| place (sizeField size) 22 ||| place zm 16 ||| place zn 5 ||| place zd 0
  | .lslWideUnpred size zd zn zm => 0x04208C00 ||| place (sizeField size) 22 ||| place zm 16 ||| place zn 5 ||| place zd 0
  | .saddlb size zd zn zm => 0x45000000 ||| place (sizeField size) 22 ||| place zm 16 ||| place zn 5 ||| place zd 0
  | .saddlt size zd zn zm => 0x45000400 ||| place (sizeField size) 22 ||| place zm 16 ||| place zn 5 ||| place zd 0
  | .uaddlb size zd zn zm => 0x45000800 ||| place (sizeField size) 22 ||| place zm 16 ||| place zn 5 ||| place zd 0
  | .uaddlt size zd zn zm => 0x45000C00 ||| place (sizeField size) 22 ||| place zm 16 ||| place zn 5 ||| place zd 0
  | .ssublb size zd zn zm => 0x45001000 ||| place (sizeField size) 22 ||| place zm 16 ||| place zn 5 ||| place zd 0
  | .ssublt size zd zn zm => 0x45001400 ||| place (sizeField size) 22 ||| place zm 16 ||| place zn 5 ||| place zd 0
  | .usublb size zd zn zm => 0x45001800 ||| place (sizeField size) 22 ||| place zm 16 ||| place zn 5 ||| place zd 0
  | .usublt size zd zn zm => 0x45001C00 ||| place (sizeField size) 22 ||| place zm 16 ||| place zn 5 ||| place zd 0
  | .sabdlb size zd zn zm => 0x45003000 ||| place (sizeField size) 22 ||| place zm 16 ||| place zn 5 ||| place zd 0
  | .sabdlt size zd zn zm => 0x45003400 ||| place (sizeField size) 22 ||| place zm 16 ||| place zn 5 ||| place zd 0
  | .uabdlb size zd zn zm => 0x45003800 ||| place (sizeField size) 22 ||| place zm 16 ||| place zn 5 ||| place zd 0
  | .uabdlt size zd zn zm => 0x45003C00 ||| place (sizeField size) 22 ||| place zm 16 ||| place zn 5 ||| place zd 0
  | .sshllb size zd zn shift => let t := shiftFields (size.toInt / 2) shift.toInt true; 0x4500A000 ||| place (t.high.setWidth 1) 22 ||| place t.low 19 ||| place t.res 16 ||| place zn 5 ||| place zd 0
  | .sshllt size zd zn shift => let t := shiftFields (size.toInt / 2) shift.toInt true; 0x4500A400 ||| place (t.high.setWidth 1) 22 ||| place t.low 19 ||| place t.res 16 ||| place zn 5 ||| place zd 0
  | .ushllb size zd zn shift => let t := shiftFields (size.toInt / 2) shift.toInt true; 0x4500A800 ||| place (t.high.setWidth 1) 22 ||| place t.low 19 ||| place t.res 16 ||| place zn 5 ||| place zd 0
  | .ushllt size zd zn shift => let t := shiftFields (size.toInt / 2) shift.toInt true; 0x4500AC00 ||| place (t.high.setWidth 1) 22 ||| place t.low 19 ||| place t.res 16 ||| place zn 5 ||| place zd 0
  | .addhnb size zd zn zm => 0x45206000 ||| place (sizeField size + 1) 22 ||| place zm 16 ||| place zn 5 ||| place zd 0
  | .addhnt size zd zn zm => 0x45206400 ||| place (sizeField size + 1) 22 ||| place zm 16 ||| place zn 5 ||| place zd 0
  | .raddhnb size zd zn zm => 0x45206800 ||| place (sizeField size + 1) 22 ||| place zm 16 ||| place zn 5 ||| place zd 0
  | .raddhnt size zd zn zm => 0x45206C00 ||| place (sizeField size + 1) 22 ||| place zm 16 ||| place zn 5 ||| place zd 0
  | .subhnb size zd zn zm => 0x45207000 ||| place (sizeField size + 1) 22 ||| place zm 16 ||| place zn 5 ||| place zd 0
  | .subhnt size zd zn zm => 0x45207400 ||| place (sizeField size + 1) 22 ||| place zm 16 ||| place zn 5 ||| place zd 0
  | .rsubhnb size zd zn zm => 0x45207800 ||| place (sizeField size + 1) 22 ||| place zm 16 ||| place zn 5 ||| place zd 0
  | .rsubhnt size zd zn zm => 0x45207C00 ||| place (sizeField size + 1) 22 ||| place zm 16 ||| place zn 5 ||| place zd 0
  | .sqshrunb size zd zn shift => let t := shiftFields size.toInt shift.toInt false; 0x45200000 ||| place (t.high.setWidth 1) 22 ||| place t.low 19 ||| place t.res 16 ||| place zn 5 ||| place zd 0
  | .sqshrunt size zd zn shift => let t := shiftFields size.toInt shift.toInt false; 0x45200400 ||| place (t.high.setWidth 1) 22 ||| place t.low 19 ||| place t.res 16 ||| place zn 5 ||| place zd 0
  | .sqrshrunb size zd zn shift => let t := shiftFields size.toInt shift.toInt false; 0x45200800 ||| place (t.high.setWidth 1) 22 ||| place t.low 19 ||| place t.res 16 ||| place zn 5 ||| place zd 0
  | .sqrshrunt size zd zn shift => let t := shiftFields size.toInt shift.toInt false; 0x45200C00 ||| place (t.high.setWidth 1) 22 ||| place t.low 19 ||| place t.res 16 ||| place zn 5 ||| place zd 0
  | .shrnb size zd zn shift => let t := shiftFields size.toInt shift.toInt false; 0x45201000 ||| place (t.high.setWidth 1) 22 ||| place t.low 19 ||| place t.res 16 ||| place zn 5 ||| place zd 0
  | .shrnt size zd zn shift => let t := shiftFields size.toInt shift.toInt false; 0x45201400 ||| place (t.high.setWidth 1) 22 ||| place t.low 19 ||| place t.res 16 ||| place zn 5 ||| place zd 0
  | .rshrnb size zd zn shift => let t := shiftFields size.toInt shift.toInt false; 0x45201800 ||| place (t.high.setWidth 1) 22 ||| place t.low 19 ||| place t.res 16 ||| place zn 5 ||| place zd 0
  | .rshrnt size zd zn shift => let t := shiftFields size.toInt shift.toInt false; 0x45201C00 ||| place (t.high.setWidth 1) 22 ||| place t.low 19 ||| place t.res 16 ||| place zn 5 ||| place zd 0
  | .sqshrnb size zd zn shift => let t := shiftFields size.toInt shift.toInt false; 0x45202000 ||| place (t.high.setWidth 1) 22 ||| place t.low 19 ||| place t.res 16 ||| place zn 5 ||| place zd 0
  | .sqshrnt size zd zn shift => let t := shiftFields size.toInt shift.toInt false; 0x45202400 ||| place (t.high.setWidth 1) 22 ||| place t.low 19 ||| place t.res 16 ||| place zn 5 ||| place zd 0
  | .sqrshrnb size zd zn shift => let t := shiftFields size.toInt shift.toInt false; 0x45202800 ||| place (t.high.setWidth 1) 22 ||| place t.low 19 ||| place t.res 16 ||| place zn 5 ||| place zd 0
  | .sqrshrnt size zd zn shift => let t := shiftFields size.toInt shift.toInt false; 0x45202C00 ||| place (t.high.setWidth 1) 22 ||| place t.low 19 ||| place t.res 16 ||| place zn 5 ||| place zd 0
  | .uqshrnb size zd zn shift => let t := shiftFields size.toInt shift.toInt false; 0x45203000 ||| place (t.high.setWidth 1) 22 ||| place t.low 19 ||| place t.res 16 ||| place zn 5 ||| place zd 0
  | .uqshrnt size zd zn shift => let t := shiftFields size.toInt shift.toInt false; 0x45203400 ||| place (t.high.setWidth 1) 22 ||| place t.low 19 ||| place t.res 16 ||| place zn 5 ||| place zd 0
  | .uqrshrnb size zd zn shift => let t := shiftFields size.toInt shift.toInt false; 0x45203800 ||| place (t.high.setWidth 1) 22 ||| place t.low 19 ||| place t.res 16 ||| place zn 5 ||| place zd 0
  | .uqrshrnt size zd zn shift => let t := shiftFields size.toInt shift.toInt false; 0x45203C00 ||| place (t.high.setWidth 1) 22 ||| place t.low 19 ||| place t.res 16 ||| place zn 5 ||| place zd 0
  | .ssra size zda zn shift => let t := shiftFields size.toInt shift.toInt false; 0x4500E000 ||| place t.high 22 ||| place t.low 19 ||| place t.res 16 ||| place zn 5 ||| place zda 0
  | .usra size zda zn shift => let t := shiftFields size.toInt shift.toInt false; 0x4500E400 ||| place t.high 22 ||| place t.low 19 ||| place t.res 16 ||| place zn 5 ||| place zda 0
  | .srsra size zda zn shift => let t := shiftFields size.toInt shift.toInt false; 0x4500E800 ||| place t.high 22 ||| place t.low 19 ||| place t.res 16 ||| place zn 5 ||| place zda 0
  | .ursra size zda zn shift => let t := shiftFields size.toInt shift.toInt false; 0x4500EC00 ||| place t.high 22 ||| place t.low 19 ||| place t.res 16 ||| place zn 5 ||| place zda 0
  | .sri size zd zn shift => let t := shiftFields size.toInt shift.toInt false; 0x4500F000 ||| place t.high 22 ||| place t.low 19 ||| place t.res 16 ||| place zn 5 ||| place zd 0
  | .sli size zd zn shift => let t := shiftFields size.toInt shift.toInt true; 0x4500F400 ||| place t.high 22 ||| place t.low 19 ||| place t.res 16 ||| place zn 5 ||| place zd 0
  | .faddUnpred size zd zn zm => 0x65000000 ||| place (sizeField size) 22 ||| place zm 16 ||| place zn 5 ||| place zd 0
  | .fsubUnpred size zd zn zm => 0x65000400 ||| place (sizeField size) 22 ||| place zm 16 ||| place zn 5 ||| place zd 0
  | .fmulUnpred size zd zn zm => 0x65000800 ||| place (sizeField size) 22 ||| place zm 16 ||| place zn 5 ||| place zd 0
  | .ftsmulUnpred size zd zn zm => 0x65000C00 ||| place (sizeField size) 22 ||| place zm 16 ||| place zn 5 ||| place zd 0
  | .frecpsUnpred size zd zn zm => 0x65001800 ||| place (sizeField size) 22 ||| place zm 16 ||| place zn 5 ||| place zd 0
  | .frsqrtsUnpred size zd zn zm => 0x65001C00 ||| place (sizeField size) 22 ||| place zm 16 ||| place zn 5 ||| place zd 0
  | .faddPred size zd pg _ zm => 0x65008000 ||| place (sizeField size) 22 ||| place (pg.idx.setWidth 3) 10 ||| place zm 5 ||| place zd 0
  | .fsubPred size zd pg _ zm => 0x65018000 ||| place (sizeField size) 22 ||| place (pg.idx.setWidth 3) 10 ||| place zm 5 ||| place zd 0
  | .fmulPred size zd pg _ zm => 0x65028000 ||| place (sizeField size) 22 ||| place (pg.idx.setWidth 3) 10 ||| place zm 5 ||| place zd 0
  | .fsubrPred size zd pg _ zm => 0x65038000 ||| place (sizeField size) 22 ||| place (pg.idx.setWidth 3) 10 ||| place zm 5 ||| place zd 0
  | .fmaxnmPred size zd pg _ zm => 0x65048000 ||| place (sizeField size) 22 ||| place (pg.idx.setWidth 3) 10 ||| place zm 5 ||| place zd 0
  | .fminnmPred size zd pg _ zm => 0x65058000 ||| place (sizeField size) 22 ||| place (pg.idx.setWidth 3) 10 ||| place zm 5 ||| place zd 0
  | .fmaxPred size zd pg _ zm => 0x65068000 ||| place (sizeField size) 22 ||| place (pg.idx.setWidth 3) 10 ||| place zm 5 ||| place zd 0
  | .fminPred size zd pg _ zm => 0x65078000 ||| place (sizeField size) 22 ||| place (pg.idx.setWidth 3) 10 ||| place zm 5 ||| place zd 0
  | .fabdPred size zd pg _ zm => 0x65088000 ||| place (sizeField size) 22 ||| place (pg.idx.setWidth 3) 10 ||| place zm 5 ||| place zd 0
  | .fscalePred size zd pg _ zm => 0x65098000 ||| place (sizeField size) 22 ||| place (pg.idx.setWidth 3) 10 ||| place zm 5 ||| place zd 0
  | .fmulxPred size zd pg _ zm => 0x650A8000 ||| place (sizeField size) 22 ||| place (pg.idx.setWidth 3) 10 ||| place zm 5 ||| place zd 0
  | .fdivrPred size zd pg _ zm => 0x650C8000 ||| place (sizeField size) 22 ||| place (pg.idx.setWidth 3) 10 ||| place zm 5 ||| place zd 0
  | .fdivPred size zd pg _ zm => 0x650D8000 ||| place (sizeField size) 22 ||| place (pg.idx.setWidth 3) 10 ||| place zm 5 ||| place zd 0
  | .fcmgeVec size pd pg zn zm => 0x65004000 ||| place (sizeField size) 22 ||| place zm 16 ||| place (pg.idx.setWidth 3) 10 ||| place zn 5 ||| place pd 0
  | .fcmgtVec size pd pg zn zm => 0x65004010 ||| place (sizeField size) 22 ||| place zm 16 ||| place (pg.idx.setWidth 3) 10 ||| place zn 5 ||| place pd 0
  | .fcmeqVec size pd pg zn zm => 0x65006000 ||| place (sizeField size) 22 ||| place zm 16 ||| place (pg.idx.setWidth 3) 10 ||| place zn 5 ||| place pd 0
  | .fcmneVec size pd pg zn zm => 0x65006010 ||| place (sizeField size) 22 ||| place zm 16 ||| place (pg.idx.setWidth 3) 10 ||| place zn 5 ||| place pd 0
  | .fcmuoVec size pd pg zn zm => 0x6500C000 ||| place (sizeField size) 22 ||| place zm 16 ||| place (pg.idx.setWidth 3) 10 ||| place zn 5 ||| place pd 0
  | .facgeVec size pd pg zn zm => 0x6500C010 ||| place (sizeField size) 22 ||| place zm 16 ||| place (pg.idx.setWidth 3) 10 ||| place zn 5 ||| place pd 0
  | .facgtVec size pd pg zn zm => 0x6500E010 ||| place (sizeField size) 22 ||| place zm 16 ||| place (pg.idx.setWidth 3) 10 ||| place zn 5 ||| place pd 0
  | .fcvt dsize ssize zd pg zn => 0x6508A000 ||| place (fcvtCode dsize ssize).1 22 ||| place (fcvtCode dsize ssize).2 16 ||| place (pg.idx.setWidth 3) 10 ||| place zn 5 ||| place zd 0
  | .fcadd size zd pg _ zm rot => 0x64008000 ||| place (sizeField size) 22 ||| place (BitVec.ofBool (rot == 270)) 16 ||| place (pg.idx.setWidth 3) 10 ||| place zm 5 ||| place zd 0
  | .fcmla size zda pg zn zm rot => 0x64000000 ||| place (sizeField size) 22 ||| place zm 16 ||| place ((rot / 90).setWidth 2) 13 ||| place (pg.idx.setWidth 3) 10 ||| place zn 5 ||| place zda 0
  | .indexIi size zd start step => 0x04204000 ||| place (sizeField size) 22 ||| place (BitVec.ofInt 5 step.toInt) 16 ||| place (BitVec.ofInt 5 start.toInt) 5 ||| place zd 0
  | .indexRi size zd rn step => 0x04204400 ||| place (sizeField size) 22 ||| place (BitVec.ofInt 5 step.toInt) 16 ||| place rn 5 ||| place zd 0
  | .indexIr size zd start rm => 0x04204800 ||| place (sizeField size) 22 ||| place rm 16 ||| place (BitVec.ofInt 5 start.toInt) 5 ||| place zd 0
  | .indexRr size zd rn rm => 0x04204C00 ||| place (sizeField size) 22 ||| place rm 16 ||| place rn 5 ||| place zd 0
  | .addvl rd rn imm => 0x04205000 ||| place rn 16 ||| place (BitVec.ofInt 6 imm.toInt) 5 ||| place rd 0
  | .addpl rd rn imm => 0x04605000 ||| place rn 16 ||| place (BitVec.ofInt 6 imm.toInt) 5 ||| place rd 0
  | .rdvl rd imm => 0x04BF5000 ||| place (BitVec.ofInt 6 imm.toInt) 5 ||| place rd 0
  | .ftssel size zd zn zm => 0x0420B000 ||| place (sizeField size) 22 ||| place zm 16 ||| place zn 5 ||| place zd 0
  | .fexpa size zd zn => 0x0420B800 ||| place (sizeField size) 22 ||| place zn 5 ||| place zd 0
  | .movprfxUnpred zd zn => 0x0420BC00 ||| place zn 5 ||| place zd 0
  | .movprfxPred size zd pg zn => 0x04102000 ||| place (sizeField size) 22 ||| place (BitVec.ofBool (pg.style == Style.merging)) 16 ||| place (pg.idx.setWidth 3) 10 ||| place zn 5 ||| place zd 0

/-- The operation of a request. -/
def Instr.op (i : Instr) : OpCode :=
  match i with
  | .addUnpred .. => .addUnpred
  | .subUnpred .. => .subUnpred
  | .sqaddUnpred .. => .sqaddUnpred
  | .uqaddUnpred .. => .uqaddUnpred
  | .sqsubUnpred .. => .sqsubUnpred
  | .uqsubUnpred .. => .uqsubUnpred
  | .addPred .. => .addPred
  | .subPred .. => .subPred
  | .subrPred .. => .subrPred
  | .smaxPred .. => .smaxPred
  | .umaxPred .. => .umaxPred
  | .sminPred .. => .sminPred
  | .uminPred .. => .uminPred
  | .sabdPred .. => .sabdPred
  | .uabdPred .. => .uabdPred
  | .orrPred .. => .orrPred
  | .eorPred .. => .eorPred
  | .andPred .. => .andPred
  | .bicPred .. => .bicPred
  | .andUnpred .. => .andUnpred
  | .orrUnpred .. => .orrUnpred
  | .eorUnpred .. => .eorUnpred
  | .bicUnpred .. => .bicUnpred
  | .cadd .. => .cadd
  | .sqcadd .. => .sqcadd
  | .cmla .. => .cmla
  | .cmpgeImm .. => .cmpgeImm
  | .cmpgtImm .. => .cmpgtImm
  | .cmpltImm .. => .cmpltImm
  | .cmpleImm .. => .cmpleImm
  | .cmpeqImm .. => .cmpeqImm
  | .cmpneImm .. => .cmpneImm
  | .cmphsImm .. => .cmphsImm
  | .cmphiImm .. => .cmphiImm
  | .cmploImm .. => .cmploImm
  | .cmplsImm .. => .cmplsImm
  | .cmphsVec .. => .cmphsVec
  | .cmphiVec .. => .cmphiVec
  | .cmpgeVec .. => .cmpgeVec
  | .cmpgtVec .. => .cmpgtVec
  | .cmpeqVec .. => .cmpeqVec
  | .cmpneVec .. => .cmpneVec
  | .zip1 .. => .zip1
  | .zip2 .. => .zip2
  | .uzp1 .. => .uzp1
  | .uzp2 .. => .uzp2
  | .trn1 .. => .trn1
  | .trn2 .. => .trn2
  | .tbl .. => .tbl
  | .tbx .. => .tbx
  | .dupIndexed .. => .dupIndexed
  | .extDestructive .. => .extDestructive
  | .extConstructive .. => .extConstructive
  | .spliceDestructive .. => .spliceDestructive
  | .spliceConstructive .. => .spliceConstructive
  | .mulPred .. => .mulPred
  | .smulhPred .. => .smulhPred
  | .umulhPred .. => .umulhPred
  | .sdivPred .. => .sdivPred
  | .udivPred .. => .udivPred
  | .sdivrPred .. => .sdivrPred
  | .udivrPred .. => .udivrPred
  | .saddv .. => .saddv
  | .uaddv .. => .uaddv
  | .smaxv .. => .smaxv
  | .umaxv .. => .umaxv
  | .sminv .. => .sminv
  | .uminv .. => .uminv
  | .orv .. => .orv
  | .eorv .. => .eorv
  | .andv .. => .andv
  | .andP .. => .andP
  | .bicP .. => .bicP
  | .eorP .. => .eorP
  | .selP .. => .selP
  | .orrP .. => .orrP
  | .ornP .. => .ornP
  | .norP .. => .norP
  | .nandP .. => .nandP
  | .andsP .. => .andsP
  | .bicsP .. => .bicsP
  | .eorsP .. => .eorsP
  | .orrsP .. => .orrsP
  | .ornsP .. => .ornsP
  | .norsP .. => .norsP
  | .nandsP .. => .nandsP
  | .brkpa .. => .brkpa
  | .brkpb .. => .brkpb
  | .brkpas .. => .brkpas
  | .brkpbs .. => .brkpbs
  | .brka .. => .brka
  | .brkas .. => .brkas
  | .brkb .. => .brkb
  | .brkbs .. => .brkbs
  | .brkn .. => .brkn
  | .brkns .. => .brkns
  | .ptrue .. => .ptrue
  | .ptrues .. => .ptrues
  | .pfalse .. => .pfalse
  | .ptest .. => .ptest
  | .pfirst .. => .pfirst
  | .pnext .. => .pnext
  | .rdffrUnpred .. => .rdffrUnpred
  | .rdffrPred .. => .rdffrPred
  | .rdffrsPred .. => .rdffrsPred
  | .setffr => .setffr
  | .wrffr .. => .wrffr
  | .ld1bSs .. => .ld1bSs
  | .ld1bSi .. => .ld1bSi
  | .ld1swSs .. => .ld1swSs
  | .ld1swSi .. => .ld1swSi
  | .ld1hSs .. => .ld1hSs
  | .ld1hSi .. => .ld1hSi
  | .ld1shSs .. => .ld1shSs
  | .ld1shSi .. => .ld1shSi
  | .ld1wSs .. => .ld1wSs
  | .ld1wSi .. => .ld1wSi
  | .ld1sbSs .. => .ld1sbSs
  | .ld1sbSi .. => .ld1sbSi
  | .ld1dSs .. => .ld1dSs
  | .ld1dSi .. => .ld1dSi
  | .st1bSs .. => .st1bSs
  | .st1bSi .. => .st1bSi
  | .st1hSs .. => .st1hSs
  | .st1hSi .. => .st1hSi
  | .st1wSs .. => .st1wSs
  | .st1wSi .. => .st1wSi
  | .st1dSs .. => .st1dSs
  | .st1dSi .. => .st1dSi
  | .ld2bSs .. => .ld2bSs
  | .ld2bSi .. => .ld2bSi
  | .ld2hSs .. => .ld2hSs
  | .ld2hSi .. => .ld2hSi
  | .ld2wSs .. => .ld2wSs
  | .ld2wSi .. => .ld2wSi
  | .ld2dSs .. => .ld2dSs
  | .ld2dSi .. => .ld2dSi
  | .ld3bSs .. => .ld3bSs
  | .ld3bSi .. => .ld3bSi
  | .ld3hSs .. => .ld3hSs
  | .ld3hSi .. => .ld3hSi
  | .ld3wSs .. => .ld3wSs
  | .ld3wSi .. => .ld3wSi
  | .ld3dSs .. => .ld3dSs
  | .ld3dSi .. => .ld3dSi
  | .ld4bSs .. => .ld4bSs
  | .ld4bSi .. => .ld4bSi
  | .ld4hSs .. => .ld4hSs
  | .ld4hSi .. => .ld4hSi
  | .ld4wSs .. => .ld4wSs
  | .ld4wSi .. => .ld4wSi
  | .ld4dSs .. => .ld4dSs
  | .ld4dSi .. => .ld4dSi
  | .st2bSs .. => .st2bSs
  | .st2bSi .. => .st2bSi
  | .st2hSs .. => .st2hSs
  | .st2hSi .. => .st2hSi
  | .st2wSs .. => .st2wSs
  | .st2wSi .. => .st2wSi
  | .st2dSs .. => .st2dSs
  | .st2dSi .. => .st2dSi
  | .st3bSs .. => .st3bSs
  | .st3bSi .. => .st3bSi
  | .st3hSs .. => .st3hSs
  | .st3hSi .. => .st3hSi
  | .st3wSs .. => .st3wSs
  | .st3wSi .. => .st3wSi
  | .st3dSs .. => .st3dSs
  | .st3dSi .. => .st3dSi
  | .st4bSs .. => .st4bSs
  | .st4bSi .. => .st4bSi
  | .st4hSs .. => .st4hSs
  | .st4hSi .. => .st4hSi
  | .st4wSs .. => .st4wSs
  | .st4wSi .. => .st4wSi
  | .st4dSs .. => .st4dSs
  | .st4dSi .. => .st4dSi
  | .asrImmPred .. => .asrImmPred
  | .lsrImmPred .. => .lsrImmPred
  | .lslImmPred .. => .lslImmPred
  | .asrdImmPred .. => .asrdImmPred
  | .sqshlImmPred .. => .sqshlImmPred
  | .uqshlImmPred .. => .uqshlImmPred
  | .srshrImmPred .. => .srshrImmPred
  | .urshrImmPred .. => .urshrImmPred
  | .sqshluImmPred .. => .sqshluImmPred
  | .asrImmUnpred .. => .asrImmUnpred
  | .lsrImmUnpred .. => .lsrImmUnpred
  | .lslImmUnpred .. => .lslImmUnpred
  | .asrVecPred .. => .asrVecPred
  | .lsrVecPred .. => .lsrVecPred
  | .lslVecPred .. => .lslVecPred
  | .asrrVecPred .. => .asrrVecPred
  | .lsrrVecPred .. => .lsrrVecPred
  | .lslrVecPred .. => .lslrVecPred
  | .asrWidePred .. => .asrWidePred
  | .lsrWidePred .. => .lsrWidePred
  | .lslWidePred .. => .lslWidePred
  | .asrWideUnpred .. => .asrWideUnpred
  | .lsrWideUnpred .. => .lsrWideUnpred
  | .lslWideUnpred .. => .lslWideUnpred
  | .saddlb .. => .saddlb
  | .saddlt .. => .saddlt
  | .uaddlb .. => .uaddlb
  | .uaddlt .. => .uaddlt
  | .ssublb .. => .ssublb
  | .ssublt .. => .ssublt
  | .usublb .. => .usublb
  | .usublt .. => .usublt
  | .sabdlb .. => .sabdlb
  | .sabdlt .. => .sabdlt
  | .uabdlb .. => .uabdlb
  | .uabdlt .. => .uabdlt
  | .sshllb .. => .sshllb
  | .sshllt .. => .sshllt
  | .ushllb .. => .ushllb
  | .ushllt .. => .ushllt
  | .addhnb .. => .addhnb
  | .addhnt .. => .addhnt
  | .raddhnb .. => .raddhnb
  | .raddhnt .. => .raddhnt
  | .subhnb .. => .subhnb
  | .subhnt .. => .subhnt
  | .rsubhnb .. => .rsubhnb
  | .rsubhnt .. => .rsubhnt
  | .sqshrunb .. => .sqshrunb
  | .sqshrunt .. => .sqshrunt
  | .sqrshrunb .. => .sqrshrunb
  | .sqrshrunt .. => .sqrshrunt
  | .shrnb .. => .shrnb
  | .shrnt .. => .shrnt
  | .rshrnb .. => .rshrnb
  | .rshrnt .. => .rshrnt
  | .sqshrnb .. => .sqshrnb
  | .sqshrnt .. => .sqshrnt
  | .sqrshrnb .. => .sqrshrnb
  | .sqrshrnt .. => .sqrshrnt
  | .uqshrnb .. => .uqshrnb
  | .uqshrnt .. => .uqshrnt
  | .uqrshrnb .. => .uqrshrnb
  | .uqrshrnt .. => .uqrshrnt
  | .ssra .. => .ssra
  | .usra .. => .usra
  | .srsra .. => .srsra
  | .ursra .. => .ursra
  | .sri .. => .sri
  | .sli .. => .sli
  | .faddUnpred .. => .faddUnpred
  | .fsubUnpred .. => .fsubUnpred
  | .fmulUnpred .. => .fmulUnpred
  | .ftsmulUnpred .. => .ftsmulUnpred
  | .frecpsUnpred .. => .frecpsUnpred
  | .frsqrtsUnpred .. => .frsqrtsUnpred
  | .faddPred .. => .faddPred
  | .fsubPred .. => .fsubPred
  | .fmulPred .. => .fmulPred
  | .fsubrPred .. => .fsubrPred
  | .fmaxnmPred .. => .fmaxnmPred
  | .fminnmPred .. => .fminnmPred
  | .fmaxPred .. => .fmaxPred
  | .fminPred .. => .fminPred
  | .fabdPred .. => .fabdPred
  | .fscalePred .. => .fscalePred
  | .fmulxPred .. => .fmulxPred
  | .fdivrPred .. => .fdivrPred
  | .fdivPred .. => .fdivPred
  | .fcmgeVec .. => .fcmgeVec
  | .fcmgtVec .. => .fcmgtVec
  | .fcmeqVec .. => .fcmeqVec
  | .fcmneVec .. => .fcmneVec
  | .fcmuoVec .. => .fcmuoVec
  | .facgeVec .. => .facgeVec
  | .facgtVec .. => .facgtVec
  | .fcvt .. => .fcvt
  | .fcadd .. => .fcadd
  | .fcmla .. => .fcmla
  | .indexIi .. => .indexIi
  | .indexRi .. => .indexRi
  | .indexIr .. => .indexIr
  | .indexRr .. => .indexRr
  | .addvl .. => .addvl
  | .addpl .. => .addpl
  | .rdvl .. => .rdvl
  | .ftssel .. => .ftssel
  | .fexpa .. => .fexpa
  | .movprfxUnpred .. => .movprfxUnpred
  | .movprfxPred .. => .movprfxPred

end

end Sys2Proof
end

