-- ==== Sys2Proof/Machine/Formats.lean ====
section
/-! DEFINITION. The parameter `FormatTable` (R6, R78, U14; log 11): packers with their skeletons and field
maps, what an operation gives the fields, a table of both, and the one construction they share (R164). The
default table's packers are rules R100 to R158. -/

namespace Sys2Proof.Machine

/-- A field of a packer: its name and its bits `high:low`, both inclusive (R78). -/
structure Field where
  name : FieldName
  high : Nat
  low : Nat
  deriving DecidableEq, Repr

/-- The number of bits of a field. -/
def Field.width (f : Field) : Nat := f.high - f.low + 1

/-- The bits of a word that a field covers. -/
def Field.mask (f : Field) : Word := BitVec.ofNat 32 ((2 ^ f.width - 1) <<< f.low)

/-- A format packer: one skeleton and one field map (R78). -/
structure Format where
  skeleton : Word
  fields : List Field
  deriving DecidableEq, Repr

/-- The packer's construction: start from the skeleton, OR in `value << low` for each field (R164). -/
def Format.pack (f : Format) (value : FieldName → Nat) : Word :=
  f.fields.foldl (fun w x => w ||| (BitVec.ofNat 32 (value x.name) <<< x.low)) f.skeleton

/-- The well-formedness of one packer by itself (R78 (a) and (b)): every field lies in the word, no two
fields overlap, and the skeleton is 0 on every field bit. -/
def Format.wellFormed (f : Format) : Bool :=
  f.fields.all (fun x => x.low ≤ x.high && x.high < 32 && (f.skeleton &&& x.mask) == 0)
  && decide (f.fields.Pairwise (fun x y => x.mask &&& y.mask = 0))

/-- What an operation gives a field (R78, R164): a constant where the field is a selector, and otherwise the
value, for the operands of the request, of the expression the operation's rule writes for it. -/
inductive FieldValue where
  | const (n : Nat)
  | expr (n : Nat)
  deriving DecidableEq, Repr

/-- The number placed. -/
def FieldValue.num : FieldValue → Nat
  | .const n => n
  | .expr n => n

/-- An operation's packer and what it gives each field, for the operands of one request (R78, R164). -/
structure Placement where
  packer : FormatName
  values : List (FieldName × FieldValue)
  deriving DecidableEq, Repr

/-- The value given to a field. A field that is given none has an unstated value (log 19). -/
def Placement.value (p : Placement) (f : FieldName) : Nat :=
  match p.values.lookup f with
  | some v => v.num
  | none => Config.unplacedValue f

/-- Where a table takes a field's value from: a constant, or the expression that the operation's rule writes
for the field of that name (R164). -/
inductive FieldSource where
  | const (n : Nat)
  | expr (field : FieldName)
  deriving DecidableEq, Repr

/-- What a table says of one operation: its packer and where each field's value comes from (R78). -/
structure TableRow where
  packer : FormatName
  sources : List (FieldName × FieldSource)
  deriving DecidableEq, Repr

/-- The parameter `FormatTable` (R6, R78): the packers and the operations' rows in which it departs from
the default table. A packer or an operation that is not listed is as in the default (log 11). -/
structure FormatTable where
  packers : List (FormatName × Format)
  rows : List (OpCode × TableRow)
  deriving DecidableEq, Repr

/-- The default table (R78): no departures. -/
def FormatTable.default : FormatTable := ⟨[], []⟩

/-- R100 `ADDSUB_UNPRED`: integer add/subtract vectors, unpredicated. -/
def Formats.addsubUnpred : Format := ⟨0x04200000, [⟨.size, 23, 22⟩, ⟨.zm, 20, 16⟩, ⟨.opc, 12, 10⟩, ⟨.zn, 9, 5⟩, ⟨.zd, 4, 0⟩]⟩

/-- R101 `ADDSUB_PRED`: integer add/subtract vectors, predicated. -/
def Formats.addsubPred : Format := ⟨0x04000000, [⟨.size, 23, 22⟩, ⟨.opc, 18, 16⟩, ⟨.pg, 12, 10⟩, ⟨.zm, 9, 5⟩, ⟨.zdn, 4, 0⟩]⟩

/-- R102 `MINMAXDIFF_PRED`: integer min/max/absolute-difference, predicated. -/
def Formats.minmaxdiffPred : Format := ⟨0x04080000, [⟨.size, 23, 22⟩, ⟨.opc, 18, 17⟩, ⟨.u, 16, 16⟩, ⟨.pg, 12, 10⟩, ⟨.zm, 9, 5⟩, ⟨.zdn, 4, 0⟩]⟩

/-- R103 `LOGICAL_PRED`: bitwise logical operations, predicated. -/
def Formats.logicalPred : Format := ⟨0x04180000, [⟨.size, 23, 22⟩, ⟨.opc, 18, 16⟩, ⟨.pg, 12, 10⟩, ⟨.zm, 9, 5⟩, ⟨.zdn, 4, 0⟩]⟩

/-- R104 `LOGICAL_UNPRED`: bitwise logical operations, unpredicated. -/
def Formats.logicalUnpred : Format := ⟨0x04203000, [⟨.opc, 23, 22⟩, ⟨.zm, 20, 16⟩, ⟨.zn, 9, 5⟩, ⟨.zd, 4, 0⟩]⟩

/-- R105 `INT_COMPLEX_ADD`: integer complex add with rotate. -/
def Formats.intComplexAdd : Format := ⟨0x4500D800, [⟨.size, 23, 22⟩, ⟨.op, 16, 16⟩, ⟨.rot, 10, 10⟩, ⟨.zm, 9, 5⟩, ⟨.zdn, 4, 0⟩]⟩

/-- R106 `INT_COMPLEX_MLA`: integer complex multiply-add with rotate. -/
def Formats.intComplexMla : Format := ⟨0x44002000, [⟨.size, 23, 22⟩, ⟨.zm, 20, 16⟩, ⟨.rot, 11, 10⟩, ⟨.zn, 9, 5⟩, ⟨.zda, 4, 0⟩]⟩

/-- R107 `CMP_IMM_SIGNED`: integer compare with signed immediate. -/
def Formats.cmpImmSigned : Format := ⟨0x25000000, [⟨.size, 23, 22⟩, ⟨.imm5, 20, 16⟩, ⟨.op, 15, 15⟩, ⟨.o2, 13, 13⟩, ⟨.pg, 12, 10⟩, ⟨.zn, 9, 5⟩, ⟨.ne, 4, 4⟩, ⟨.pd, 3, 0⟩]⟩

/-- R108 `CMP_IMM_UNSIGNED`: integer compare with unsigned immediate. -/
def Formats.cmpImmUnsigned : Format := ⟨0x24200000, [⟨.size, 23, 22⟩, ⟨.imm7, 20, 14⟩, ⟨.lt, 13, 13⟩, ⟨.pg, 12, 10⟩, ⟨.zn, 9, 5⟩, ⟨.ne, 4, 4⟩, ⟨.pd, 3, 0⟩]⟩

/-- R109 `CMP_VEC`: integer compare vectors. -/
def Formats.cmpVec : Format := ⟨0x24000000, [⟨.size, 23, 22⟩, ⟨.zm, 20, 16⟩, ⟨.op, 15, 15⟩, ⟨.o2, 13, 13⟩, ⟨.pg, 12, 10⟩, ⟨.zn, 9, 5⟩, ⟨.ne, 4, 4⟩, ⟨.pd, 3, 0⟩]⟩

/-- R110 `PERMUTE_VEC`: permute vector elements (interleave, de-interleave, transpose). -/
def Formats.permuteVec : Format := ⟨0x05206000, [⟨.size, 23, 22⟩, ⟨.zm, 20, 16⟩, ⟨.opc, 12, 10⟩, ⟨.zn, 9, 5⟩, ⟨.zd, 4, 0⟩]⟩

/-- R111 `TABLE_LOOKUP`: table lookup. -/
def Formats.tableLookup : Format := ⟨0x05202000, [⟨.size, 23, 22⟩, ⟨.zm, 20, 16⟩, ⟨.op, 12, 10⟩, ⟨.zn, 9, 5⟩, ⟨.zd, 4, 0⟩]⟩

/-- R112 `DUP_INDEXED`: duplicate indexed element. -/
def Formats.dupIndexed : Format := ⟨0x05202000, [⟨.imm2, 23, 22⟩, ⟨.tsz, 20, 16⟩, ⟨.zn, 9, 5⟩, ⟨.zd, 4, 0⟩]⟩

/-- R113 `EXT`: extract vector from pair of vectors. -/
def Formats.ext : Format := ⟨0x05200000, [⟨.form, 22, 22⟩, ⟨.imm8h, 20, 16⟩, ⟨.imm8l, 12, 10⟩, ⟨.zs, 9, 5⟩, ⟨.zd, 4, 0⟩]⟩

/-- R114 `SPLICE`: splice two vectors under predicate control. -/
def Formats.splice : Format := ⟨0x052C8000, [⟨.size, 23, 22⟩, ⟨.form, 16, 16⟩, ⟨.pg, 12, 10⟩, ⟨.zs, 9, 5⟩, ⟨.zd, 4, 0⟩]⟩

/-- R115 `MULDIV_PRED`: integer multiply and divide vectors, predicated. -/
def Formats.muldivPred : Format := ⟨0x04100000, [⟨.size, 23, 22⟩, ⟨.opc, 18, 16⟩, ⟨.pg, 12, 10⟩, ⟨.zm, 9, 5⟩, ⟨.zdn, 4, 0⟩]⟩

/-- R116 `REDUCTION`: integer reduction to a scalar SIMD&FP register. -/
def Formats.reduction : Format := ⟨0x04002000, [⟨.size, 23, 22⟩, ⟨.opc, 20, 16⟩, ⟨.pg, 12, 10⟩, ⟨.zn, 9, 5⟩, ⟨.vd, 4, 0⟩]⟩

/-- R117 `PRED_LOGICAL`: predicate logical operations. -/
def Formats.predLogical : Format := ⟨0x25004000, [⟨.op, 23, 23⟩, ⟨.s, 22, 22⟩, ⟨.pm, 19, 16⟩, ⟨.pg, 13, 10⟩, ⟨.o2, 9, 9⟩, ⟨.pn, 8, 5⟩, ⟨.o3, 4, 4⟩, ⟨.pd, 3, 0⟩]⟩

/-- R118 `PROP_BREAK`: propagate break from previous partition. -/
def Formats.propBreak : Format := ⟨0x2500C000, [⟨.s, 22, 22⟩, ⟨.pm, 19, 16⟩, ⟨.pg, 13, 10⟩, ⟨.pn, 8, 5⟩, ⟨.b, 4, 4⟩, ⟨.pd, 3, 0⟩]⟩

/-- R119 `PART_BREAK`: break after/before first true condition. -/
def Formats.partBreak : Format := ⟨0x25104000, [⟨.b, 23, 23⟩, ⟨.s, 22, 22⟩, ⟨.pg, 13, 10⟩, ⟨.pn, 8, 5⟩, ⟨.m, 4, 4⟩, ⟨.pd, 3, 0⟩]⟩

/-- R120 `BRKN`: propagate break to next partition. -/
def Formats.brkn : Format := ⟨0x25184000, [⟨.s, 22, 22⟩, ⟨.pg, 13, 10⟩, ⟨.pn, 8, 5⟩, ⟨.pdm, 3, 0⟩]⟩

/-- R121 `PTRUE`: initialise predicate from named constraint. -/
def Formats.ptrue : Format := ⟨0x2518E000, [⟨.size, 23, 22⟩, ⟨.s, 16, 16⟩, ⟨.pattern, 9, 5⟩, ⟨.pd, 3, 0⟩]⟩

/-- R122 `PFALSE`: set all predicate elements to false. -/
def Formats.pfalse : Format := ⟨0x2518E400, [⟨.pd, 3, 0⟩]⟩

/-- R123 `PTEST`: set condition flags for predicate. -/
def Formats.ptest : Format := ⟨0x2550C000, [⟨.pg, 13, 10⟩, ⟨.pn, 8, 5⟩]⟩

/-- R124 `PFIRST`: set the first active predicate element to true. -/
def Formats.pfirst : Format := ⟨0x2558C000, [⟨.pg, 8, 5⟩, ⟨.pdn, 3, 0⟩]⟩

/-- R125 `PNEXT`: find next active predicate. -/
def Formats.pnext : Format := ⟨0x2519C400, [⟨.size, 23, 22⟩, ⟨.pg, 8, 5⟩, ⟨.pdn, 3, 0⟩]⟩

/-- R126 `RDFFR_UNPRED`: read the first-fault register, unpredicated. -/
def Formats.rdffrUnpred : Format := ⟨0x2519F000, [⟨.pd, 3, 0⟩]⟩

/-- R127 `RDFFR_PRED`: read the first-fault register, predicated. -/
def Formats.rdffrPred : Format := ⟨0x2518F000, [⟨.s, 22, 22⟩, ⟨.pg, 8, 5⟩, ⟨.pd, 3, 0⟩]⟩

/-- R128 `SETFFR`: initialise the first-fault register to all true. -/
def Formats.setffr : Format := ⟨0x252C9000, []⟩

/-- R129 `WRFFR`: write the first-fault register. -/
def Formats.wrffr : Format := ⟨0x25289000, [⟨.pn, 8, 5⟩]⟩

/-- R130 `LD1_SS`: contiguous load, scalar base plus scalar index. -/
def Formats.ld1Ss : Format := ⟨0xA4004000, [⟨.dtype, 24, 21⟩, ⟨.rm, 20, 16⟩, ⟨.pg, 12, 10⟩, ⟨.rn, 9, 5⟩, ⟨.zt, 4, 0⟩]⟩

/-- R131 `LD1_SI`: contiguous load, scalar base plus immediate. -/
def Formats.ld1Si : Format := ⟨0xA400A000, [⟨.dtype, 24, 21⟩, ⟨.imm4, 19, 16⟩, ⟨.pg, 12, 10⟩, ⟨.rn, 9, 5⟩, ⟨.zt, 4, 0⟩]⟩

/-- R132 `ST1_SS`: contiguous store, scalar base plus scalar index. -/
def Formats.st1Ss : Format := ⟨0xE4004000, [⟨.msz, 24, 23⟩, ⟨.size, 22, 21⟩, ⟨.rm, 20, 16⟩, ⟨.pg, 12, 10⟩, ⟨.rn, 9, 5⟩, ⟨.zt, 4, 0⟩]⟩

/-- R133 `ST1_SI`: contiguous store, scalar base plus immediate. -/
def Formats.st1Si : Format := ⟨0xE400E000, [⟨.msz, 24, 23⟩, ⟨.size, 22, 21⟩, ⟨.imm4, 19, 16⟩, ⟨.pg, 12, 10⟩, ⟨.rn, 9, 5⟩, ⟨.zt, 4, 0⟩]⟩

/-- R134 `LDN_SS`: load multiple structures, scalar base plus scalar index. -/
def Formats.ldnSs : Format := ⟨0xA400C000, [⟨.msz, 24, 23⟩, ⟨.opc, 22, 21⟩, ⟨.rm, 20, 16⟩, ⟨.pg, 12, 10⟩, ⟨.rn, 9, 5⟩, ⟨.zt, 4, 0⟩]⟩

/-- R135 `LDN_SI`: load multiple structures, scalar base plus immediate. -/
def Formats.ldnSi : Format := ⟨0xA400E000, [⟨.msz, 24, 23⟩, ⟨.opc, 22, 21⟩, ⟨.imm4, 19, 16⟩, ⟨.pg, 12, 10⟩, ⟨.rn, 9, 5⟩, ⟨.zt, 4, 0⟩]⟩

/-- R136 `STN_SS`: store multiple structures, scalar base plus scalar index. -/
def Formats.stnSs : Format := ⟨0xE4006000, [⟨.msz, 24, 23⟩, ⟨.opc, 22, 21⟩, ⟨.rm, 20, 16⟩, ⟨.pg, 12, 10⟩, ⟨.rn, 9, 5⟩, ⟨.zt, 4, 0⟩]⟩

/-- R137 `STN_SI`: store multiple structures, scalar base plus immediate. -/
def Formats.stnSi : Format := ⟨0xE410E000, [⟨.msz, 24, 23⟩, ⟨.opc, 22, 21⟩, ⟨.imm4, 19, 16⟩, ⟨.pg, 12, 10⟩, ⟨.rn, 9, 5⟩, ⟨.zt, 4, 0⟩]⟩

/-- R138 `SHIFT_IMM_PRED`: bitwise shift by immediate, predicated. -/
def Formats.shiftImmPred : Format := ⟨0x04008000, [⟨.tszh, 23, 22⟩, ⟨.opc, 19, 18⟩, ⟨.l, 17, 17⟩, ⟨.u, 16, 16⟩, ⟨.pg, 12, 10⟩, ⟨.tszl, 9, 8⟩, ⟨.imm3, 7, 5⟩, ⟨.zdn, 4, 0⟩]⟩

/-- R139 `SHIFT_IMM_UNPRED`: bitwise shift by immediate, unpredicated. -/
def Formats.shiftImmUnpred : Format := ⟨0x04209000, [⟨.tszh, 23, 22⟩, ⟨.tszl, 20, 19⟩, ⟨.imm3, 18, 16⟩, ⟨.opc, 11, 10⟩, ⟨.zn, 9, 5⟩, ⟨.zd, 4, 0⟩]⟩

/-- R140 `SHIFT_VEC_PRED`: bitwise shift by vector, predicated. -/
def Formats.shiftVecPred : Format := ⟨0x04108000, [⟨.size, 23, 22⟩, ⟨.r, 18, 18⟩, ⟨.l, 17, 17⟩, ⟨.u, 16, 16⟩, ⟨.pg, 12, 10⟩, ⟨.zm, 9, 5⟩, ⟨.zdn, 4, 0⟩]⟩

/-- R141 `SHIFT_WIDE_PRED`: bitwise shift by 64-bit wide elements, predicated. -/
def Formats.shiftWidePred : Format := ⟨0x04188000, [⟨.size, 23, 22⟩, ⟨.l, 17, 17⟩, ⟨.u, 16, 16⟩, ⟨.pg, 12, 10⟩, ⟨.zm, 9, 5⟩, ⟨.zdn, 4, 0⟩]⟩

/-- R142 `SHIFT_WIDE_UNPRED`: bitwise shift by 64-bit wide elements, unpredicated. -/
def Formats.shiftWideUnpred : Format := ⟨0x04208000, [⟨.size, 23, 22⟩, ⟨.zm, 20, 16⟩, ⟨.opc, 11, 10⟩, ⟨.zn, 9, 5⟩, ⟨.zd, 4, 0⟩]⟩

/-- R143 `WIDEN_LONG`: integer add/subtract/absolute-difference long. -/
def Formats.widenLong : Format := ⟨0x45000000, [⟨.size, 23, 22⟩, ⟨.zm, 20, 16⟩, ⟨.op, 13, 13⟩, ⟨.s, 12, 12⟩, ⟨.u, 11, 11⟩, ⟨.t, 10, 10⟩, ⟨.zn, 9, 5⟩, ⟨.zd, 4, 0⟩]⟩

/-- R144 `SHIFT_LEFT_LONG`: shift left long by immediate. -/
def Formats.shiftLeftLong : Format := ⟨0x4500A000, [⟨.tszh, 22, 22⟩, ⟨.tszl, 20, 19⟩, ⟨.imm3, 18, 16⟩, ⟨.u, 11, 11⟩, ⟨.t, 10, 10⟩, ⟨.zn, 9, 5⟩, ⟨.zd, 4, 0⟩]⟩

/-- R145 `NARROW_HIGH`: integer add/subtract narrow high part. -/
def Formats.narrowHigh : Format := ⟨0x45206000, [⟨.size, 23, 22⟩, ⟨.zm, 20, 16⟩, ⟨.s, 12, 12⟩, ⟨.r, 11, 11⟩, ⟨.t, 10, 10⟩, ⟨.zn, 9, 5⟩, ⟨.zd, 4, 0⟩]⟩

/-- R146 `SHIFT_RIGHT_NARROW`: shift right narrow by immediate. -/
def Formats.shiftRightNarrow : Format := ⟨0x45200000, [⟨.tszh, 22, 22⟩, ⟨.tszl, 20, 19⟩, ⟨.imm3, 18, 16⟩, ⟨.op, 13, 13⟩, ⟨.u, 12, 12⟩, ⟨.r, 11, 11⟩, ⟨.t, 10, 10⟩, ⟨.zn, 9, 5⟩, ⟨.zd, 4, 0⟩]⟩

/-- R147 `SHIFT_RIGHT_ACC`: shift right by immediate and accumulate. -/
def Formats.shiftRightAcc : Format := ⟨0x4500E000, [⟨.tszh, 23, 22⟩, ⟨.tszl, 20, 19⟩, ⟨.imm3, 18, 16⟩, ⟨.r, 11, 11⟩, ⟨.u, 10, 10⟩, ⟨.zn, 9, 5⟩, ⟨.zda, 4, 0⟩]⟩

/-- R148 `SHIFT_INSERT`: shift by immediate and insert. -/
def Formats.shiftInsert : Format := ⟨0x4500F000, [⟨.tszh, 23, 22⟩, ⟨.tszl, 20, 19⟩, ⟨.imm3, 18, 16⟩, ⟨.op, 10, 10⟩, ⟨.zn, 9, 5⟩, ⟨.zd, 4, 0⟩]⟩

/-- R149 `FP_ARITH_UNPRED`: floating-point arithmetic, unpredicated. -/
def Formats.fpArithUnpred : Format := ⟨0x65000000, [⟨.size, 23, 22⟩, ⟨.zm, 20, 16⟩, ⟨.opc, 12, 10⟩, ⟨.zn, 9, 5⟩, ⟨.zd, 4, 0⟩]⟩

/-- R150 `FP_ARITH_PRED`: floating-point arithmetic, predicated. -/
def Formats.fpArithPred : Format := ⟨0x65008000, [⟨.size, 23, 22⟩, ⟨.opc, 19, 16⟩, ⟨.pg, 12, 10⟩, ⟨.zm, 9, 5⟩, ⟨.zdn, 4, 0⟩]⟩

/-- R151 `FP_CMP_VEC`: floating-point compare vectors. -/
def Formats.fpCmpVec : Format := ⟨0x65004000, [⟨.size, 23, 22⟩, ⟨.zm, 20, 16⟩, ⟨.op, 15, 15⟩, ⟨.o2, 13, 13⟩, ⟨.pg, 12, 10⟩, ⟨.zn, 9, 5⟩, ⟨.o3, 4, 4⟩, ⟨.pd, 3, 0⟩]⟩

/-- R152 `FP_CVT`: floating-point convert precision. -/
def Formats.fpCvt : Format := ⟨0x6508A000, [⟨.opc, 23, 22⟩, ⟨.opc2, 17, 16⟩, ⟨.pg, 12, 10⟩, ⟨.zn, 9, 5⟩, ⟨.zd, 4, 0⟩]⟩

/-- R153 `FP_COMPLEX_ADD`: floating-point complex add with rotate. -/
def Formats.fpComplexAdd : Format := ⟨0x64008000, [⟨.size, 23, 22⟩, ⟨.rot, 16, 16⟩, ⟨.pg, 12, 10⟩, ⟨.zm, 9, 5⟩, ⟨.zdn, 4, 0⟩]⟩

/-- R154 `FP_COMPLEX_MLA`: floating-point complex multiply-add with rotate. -/
def Formats.fpComplexMla : Format := ⟨0x64000000, [⟨.size, 23, 22⟩, ⟨.zm, 20, 16⟩, ⟨.rot, 14, 13⟩, ⟨.pg, 12, 10⟩, ⟨.zn, 9, 5⟩, ⟨.zda, 4, 0⟩]⟩

/-- R155 `INDEX_GEN`: create index vector from start and step. -/
def Formats.indexGen : Format := ⟨0x04204000, [⟨.size, 23, 22⟩, ⟨.hi5, 20, 16⟩, ⟨.form, 11, 10⟩, ⟨.lo5, 9, 5⟩, ⟨.zd, 4, 0⟩]⟩

/-- R156 `STACK_FRAME`: add multiple of vector or predicate register length to scalar; read vector length. -/
def Formats.stackFrame : Format := ⟨0x04205000, [⟨.op, 23, 22⟩, ⟨.rn, 20, 16⟩, ⟨.imm6, 10, 5⟩, ⟨.rd, 4, 0⟩]⟩

/-- R157 `MISC_UNPRED`: miscellaneous unpredicated operations. -/
def Formats.miscUnpred : Format := ⟨0x0420B000, [⟨.size, 23, 22⟩, ⟨.zm, 20, 16⟩, ⟨.opc, 11, 10⟩, ⟨.zn, 9, 5⟩, ⟨.zd, 4, 0⟩]⟩

/-- R158 `MOVPRFX_PRED`: move prefix, predicated. -/
def Formats.movprfxPred : Format := ⟨0x04102000, [⟨.size, 23, 22⟩, ⟨.m, 16, 16⟩, ⟨.pg, 12, 10⟩, ⟨.zn, 9, 5⟩, ⟨.zd, 4, 0⟩]⟩

/-- The packers of the default table (R78, R100 to R158). -/
def Formats.default : FormatName → Format
  | .addsubUnpred => Formats.addsubUnpred
  | .addsubPred => Formats.addsubPred
  | .minmaxdiffPred => Formats.minmaxdiffPred
  | .logicalPred => Formats.logicalPred
  | .logicalUnpred => Formats.logicalUnpred
  | .intComplexAdd => Formats.intComplexAdd
  | .intComplexMla => Formats.intComplexMla
  | .cmpImmSigned => Formats.cmpImmSigned
  | .cmpImmUnsigned => Formats.cmpImmUnsigned
  | .cmpVec => Formats.cmpVec
  | .permuteVec => Formats.permuteVec
  | .tableLookup => Formats.tableLookup
  | .dupIndexed => Formats.dupIndexed
  | .ext => Formats.ext
  | .splice => Formats.splice
  | .muldivPred => Formats.muldivPred
  | .reduction => Formats.reduction
  | .predLogical => Formats.predLogical
  | .propBreak => Formats.propBreak
  | .partBreak => Formats.partBreak
  | .brkn => Formats.brkn
  | .ptrue => Formats.ptrue
  | .pfalse => Formats.pfalse
  | .ptest => Formats.ptest
  | .pfirst => Formats.pfirst
  | .pnext => Formats.pnext
  | .rdffrUnpred => Formats.rdffrUnpred
  | .rdffrPred => Formats.rdffrPred
  | .setffr => Formats.setffr
  | .wrffr => Formats.wrffr
  | .ld1Ss => Formats.ld1Ss
  | .ld1Si => Formats.ld1Si
  | .st1Ss => Formats.st1Ss
  | .st1Si => Formats.st1Si
  | .ldnSs => Formats.ldnSs
  | .ldnSi => Formats.ldnSi
  | .stnSs => Formats.stnSs
  | .stnSi => Formats.stnSi
  | .shiftImmPred => Formats.shiftImmPred
  | .shiftImmUnpred => Formats.shiftImmUnpred
  | .shiftVecPred => Formats.shiftVecPred
  | .shiftWidePred => Formats.shiftWidePred
  | .shiftWideUnpred => Formats.shiftWideUnpred
  | .widenLong => Formats.widenLong
  | .shiftLeftLong => Formats.shiftLeftLong
  | .narrowHigh => Formats.narrowHigh
  | .shiftRightNarrow => Formats.shiftRightNarrow
  | .shiftRightAcc => Formats.shiftRightAcc
  | .shiftInsert => Formats.shiftInsert
  | .fpArithUnpred => Formats.fpArithUnpred
  | .fpArithPred => Formats.fpArithPred
  | .fpCmpVec => Formats.fpCmpVec
  | .fpCvt => Formats.fpCvt
  | .fpComplexAdd => Formats.fpComplexAdd
  | .fpComplexMla => Formats.fpComplexMla
  | .indexGen => Formats.indexGen
  | .stackFrame => Formats.stackFrame
  | .miscUnpred => Formats.miscUnpred
  | .movprfxPred => Formats.movprfxPred

/-- Every packer of the default table (R100 to R158). -/
def Formats.all : List Format :=
  [Formats.addsubUnpred, Formats.addsubPred, Formats.minmaxdiffPred, Formats.logicalPred, Formats.logicalUnpred, Formats.intComplexAdd, Formats.intComplexMla, Formats.cmpImmSigned, Formats.cmpImmUnsigned, Formats.cmpVec, Formats.permuteVec, Formats.tableLookup, Formats.dupIndexed, Formats.ext, Formats.splice, Formats.muldivPred, Formats.reduction, Formats.predLogical, Formats.propBreak, Formats.partBreak]
  ++ [Formats.brkn, Formats.ptrue, Formats.pfalse, Formats.ptest, Formats.pfirst, Formats.pnext, Formats.rdffrUnpred, Formats.rdffrPred, Formats.setffr, Formats.wrffr, Formats.ld1Ss, Formats.ld1Si, Formats.st1Ss, Formats.st1Si, Formats.ldnSs, Formats.ldnSi, Formats.stnSs, Formats.stnSi, Formats.shiftImmPred, Formats.shiftImmUnpred]
  ++ [Formats.shiftVecPred, Formats.shiftWidePred, Formats.shiftWideUnpred, Formats.widenLong, Formats.shiftLeftLong, Formats.narrowHigh, Formats.shiftRightNarrow, Formats.shiftRightAcc, Formats.shiftInsert, Formats.fpArithUnpred, Formats.fpArithPred, Formats.fpCmpVec, Formats.fpCvt, Formats.fpComplexAdd, Formats.fpComplexMla, Formats.indexGen, Formats.stackFrame, Formats.miscUnpred, Formats.movprfxPred]

/-- A packer of the table (R78). -/
def FormatTable.packer (t : FormatTable) (n : FormatName) : Format :=
  (t.packers.lookup n).getD (Formats.default n)

/-- The value a source gives, where the operation's default placement is known; none where the operation's
rule writes no expression for the field named. -/
def FieldSource.value? (p : Placement) : FieldSource → Option FieldValue
  | .const n => some (.const n)
  | .expr f =>
    match p.values.lookup f with
    | some (.expr n) => some (.expr n)
    | _ => none

/-- An operation's placement under the table, from its placement under the default table. -/
def FormatTable.placement (t : FormatTable) (op : OpCode) (p : Placement) : Placement :=
  match t.rows.lookup op with
  | none => p
  | some r => ⟨r.packer, r.sources.filterMap (fun x => (x.2.value? p).map (fun v => (x.1, v)))⟩

/-- The word of an operation under the table (R164), from its placement under the default table. -/
def FormatTable.word (t : FormatTable) (op : OpCode) (p : Placement) : Word :=
  (t.packer (t.placement op p).packer).pack (t.placement op p).value

end Sys2Proof.Machine
end

