-- ==== Sys2Proof/Machine/Request.lean ====
section
/-! DEFINITION. What stands on the request port: the request record of R61 around an operation's
operands, the polymorphic requests and their MemoryOperand (R167, R317, R318), and reset, the block's
only asynchronous input (R630). How a program comes to stand there is log 7. -/

namespace Sys2Proof.Machine

/-- The 32/64-bit view bits of a request's ScalarRegister operands (R61): 0 the 32-bit view, 1 the
64-bit view. Every admitted operation ignores them (R63; log 15). -/
structure ScalarViews where
  rd : BitVec 1
  rn : BitVec 1
  rm : BitVec 1
  deriving DecidableEq, Repr

/-- A MemoryOperand: its tag and payload (R317). -/
inductive MemoryOperand where
  /-- Tag 0: base register plus base register offset. -/
  | scalarScalar (rn rm : XReg)
  /-- Tag 1: base register plus immediate offset. -/
  | scalarImm (rn : XReg) (imm : ReqInt)
  /-- Tag 2: base register plus vector offset; no wired form. -/
  | scalarVector (rn : XReg) (zm : VReg)
  /-- Tag 3: vector base plus immediate offset; no wired form. -/
  | vectorImm (zn : VReg) (imm : ReqInt)
  deriving DecidableEq, Repr

/-- The 2-bit tag code (R61). -/
def MemoryOperand.tag : MemoryOperand → BitVec 2
  | .scalarScalar .. => 0
  | .scalarImm .. => 1
  | .scalarVector .. => 2
  | .vectorImm .. => 3

/-- The eleven polymorphic load/store operations (R318). -/
inductive PolyOp where
  | ld1b | ld1sw | ld1h | ld1sh | ld1w | ld1sb | ld1d | st1b | st1h | st1w | st1d
  deriving DecidableEq, Repr

/-- The name on the request port (R61, R88). -/
def PolyOp.code : PolyOp → OpCode
  | .ld1b => .ld1b | .ld1sw => .ld1sw | .ld1h => .ld1h | .ld1sh => .ld1sh | .ld1w => .ld1w
  | .ld1sb => .ld1sb | .ld1d => .ld1d | .st1b => .st1b | .st1h => .st1h | .st1w => .st1w
  | .st1d => .st1d

/-- The `_ss` operation a ScalarScalar operand forwards to (R167, R318). -/
def PolyOp.scalarScalar (p : PolyOp) (size : ReqInt) (zt : VReg) (pg : GovPred) (rn rm : XReg) : Instr :=
  match p with
  | .ld1b => .ld1bSs size zt pg rn rm
  | .ld1sw => .ld1swSs size zt pg rn rm
  | .ld1h => .ld1hSs size zt pg rn rm
  | .ld1sh => .ld1shSs size zt pg rn rm
  | .ld1w => .ld1wSs size zt pg rn rm
  | .ld1sb => .ld1sbSs size zt pg rn rm
  | .ld1d => .ld1dSs size zt pg rn rm
  | .st1b => .st1bSs size zt pg rn rm
  | .st1h => .st1hSs size zt pg rn rm
  | .st1w => .st1wSs size zt pg rn rm
  | .st1d => .st1dSs size zt pg rn rm

/-- The `_si` operation a ScalarImm operand forwards to (R167, R318). -/
def PolyOp.scalarImm (p : PolyOp) (size : ReqInt) (zt : VReg) (pg : GovPred) (rn : XReg)
    (imm : ReqInt) : Instr :=
  match p with
  | .ld1b => .ld1bSi size zt pg rn imm
  | .ld1sw => .ld1swSi size zt pg rn imm
  | .ld1h => .ld1hSi size zt pg rn imm
  | .ld1sh => .ld1shSi size zt pg rn imm
  | .ld1w => .ld1wSi size zt pg rn imm
  | .ld1sb => .ld1sbSi size zt pg rn imm
  | .ld1d => .ld1dSi size zt pg rn imm
  | .st1b => .st1bSi size zt pg rn imm
  | .st1h => .st1hSi size zt pg rn imm
  | .st1w => .st1wSi size zt pg rn imm
  | .st1d => .st1dSi size zt pg rn imm

/-- One request on the port (R61). -/
inductive Request where
  /-- A request of one of the 287 operations, with the view bits of its scalar operands. -/
  | direct (i : Instr) (views : ScalarViews)
  /-- A request of one of the 11 polymorphic names (R318). -/
  | polymorphic (p : PolyOp) (size : ReqInt) (zt : VReg) (pg : GovPred) (mem : MemoryOperand)
      (views : ScalarViews)
  /-- A code outside the operation enumeration, which no caller of the real port can present (R88);
  a request type that can carry one must refuse it and never pack a word (U2;
  log 9). -/
  | unadmitted (code : Nat)
  deriving DecidableEq, Repr

/-- What the caller, or the system, presents to the block, in order. -/
inductive PortEvent where
  /-- Reset, which falls between requests (R630, U17). -/
  | reset
  /-- A request (R160). -/
  | request (q : Request)
  deriving DecidableEq, Repr

end Sys2Proof.Machine
end

