-- ==== Sys2Proof/Machine/State.lean ====
section
/-! DEFINITION. The machine's state: the block's own latch and FAULT status (R22, R23), the interface
state of the output stream (R24, R25), the request port, and the parameters a run fixes. Plain data. -/

namespace Sys2Proof.Machine

/-- The output stream: the one address space (R25), byte address and byte, addresses strictly rising.
An address that is not listed has never been written and reads as no value (R27, log 3). -/
abbrev Memory := List Host.Cell

/-- Why a step of the model stops. The block has no stop of its own: its one exception is taken, a next
state (R604), and a sink condition is not the block's (R45, R603; the stream is unbounded, log 4). So
there is no fault. -/
inductive Fault where
  deriving DecidableEq, Repr

/-- Why a step has no meaning. Every operation has one, and what the block itself refuses (R606, U2) is no
stop: the request is answered and nothing else changes, a next state (log 8). -/
inductive Refusal where
  /-- An instruction that has no meaning yet. No arm of `exec` answers it: every operation has its
  meaning. Safe. -/
  | notModelled (mnemonic : String)
  deriving DecidableEq, Repr

/-- The state of the block, its sink and its port. -/
structure State where
  /-- The fault latch, 1 bit (R22). -/
  halted : Bool
  /-- FAULT status, 3 bits: 0 none, 1 to 5 the causes of R601 (R23). -/
  cause : BitVec 3
  /-- FAULT status: the operation of the refused request (R23). -/
  diagOp : OpCode
  /-- FAULT status: the offending value, signed 32 bits (R23). -/
  diagValue : BitVec 32
  /-- The write cursor, a natural number counting words (R24). -/
  wpos : Nat
  /-- The output stream (R25). -/
  stream : Memory
  /-- Parameter `WPOS0` of the run: where the cursor stood when the stream was handed over (R6, R24).
  No step changes it. -/
  wpos0 : Nat
  /-- Parameter `SinkByteOrder` of the run (R6, R42). No step changes it. -/
  byteOrder : ByteOrder
  /-- Parameter `FormatTable` of the run: skeletons, field places, selector constants (R6, R78, U14). No step
  changes it. -/
  formatTable : FormatTable
  /-- What is presented to the block and not yet taken, in order (R160, R630). The model's own. -/
  port : List PortEvent
  /-- How many resets have drawn a free value for `diag`. The model's own. -/
  freeCount : Nat
  deriving DecidableEq, Repr

/-- The outcome of a step. -/
abbrev Result := Host.Outcome State Fault Refusal

/-- The machine right after reset (R27, R630): the latch and the cause 0, the stream with nothing
written. `diag` is unspecified there and the sink's cursor is a parameter: the values named here are
DESIGN CHOICES (logs 1 and 2). -/
def State.reset : State where
  halted := false
  cause := 0
  diagOp := .addUnpred
  diagValue := 0
  wpos := Config.defaultWpos0
  stream := []
  wpos0 := Config.defaultWpos0
  byteOrder := Config.defaultByteOrder
  formatTable := FormatTable.default
  port := []
  freeCount := 0

end Sys2Proof.Machine
end

