-- ==== Sys2Proof/Machine/Ops.lean ====
section
/-! DEFINITION. The named operations over the state: the bytes of the stream, `Append` (R41), taking
the one exception (R604), leaving it by reset (R607, R630), and the step every operation shares (R160). -/

namespace Sys2Proof.Machine

/-- The canonical form of a stream: addresses strictly rising. An unlisted address reads as no value,
so no listed byte equals what an unlisted address reads as. -/
abbrev Memory.wf (m : Memory) : Prop := m.Pairwise (fun x y => x.1 < y.1)

/-- The byte at an address; none where nothing has been written (R27). -/
def Memory.read : Memory → Nat → Option Byte
  | [], _ => none
  | (k, b) :: m, a => if k = a then some b else Memory.read m a

/-- Writes one byte, keeping the addresses rising. -/
def Memory.write : Memory → Nat → Byte → Memory
  | [], a, b => [(a, b)]
  | (k, c) :: m, a, b =>
    if a < k then (a, b) :: (k, c) :: m
    else if a = k then (a, b) :: m
    else (k, c) :: Memory.write m a b

/-- `MemWrite(addr, 4, w)` (R8, R42): the four bytes of the word in the sink's byte order. -/
def Memory.writeWord (m : Memory) (order : ByteOrder) (addr : Nat) (w : Word) : Memory :=
  (((m.write addr (wordByte order w 0)).write (addr + 1) (wordByte order w 1)).write (addr + 2)
    (wordByte order w 2)).write (addr + 3) (wordByte order w 3)

/-- The word at word position `k`, if all its four bytes have been written. The block never reads the
stream (R50); the caller and the statements do. -/
def Memory.readWord (m : Memory) (order : ByteOrder) (k : Nat) : Option Word :=
  match m.read (4 * k), m.read (4 * k + 1), m.read (4 * k + 2), m.read (4 * k + 3) with
  | some b0, some b1, some b2, some b3 => some (wordOfBytes order b0 b1 b2 b3)
  | _, _, _, _ => none

/-- `Append(w)` (R41): `MemWrite(4 * wpos, 4, w)`, then `wpos <- wpos + 1`. -/
def State.append (s : State) (w : Word) : State :=
  { s with stream := s.stream.writeWord s.byteOrder (4 * s.wpos) w, wpos := s.wpos + 1 }

/-- The query of the current position, a caller-side operation on the sink (R52). -/
def State.queryPosition (s : State) : Nat := s.wpos

/-- The code of a cause (R23, R601). -/
def Cause.toCode : Cause → BitVec 3
  | .elementSize => 1
  | .operandRange => 2
  | .aliasing => 3
  | .immediateRange => 4
  | .addressingMode => 5

/-- Taking the exception: `raise PreconditionViolation(cause)` (R604). The latch is set, the cause and
the diagnostic recorded; the stream and the cursor stay. Nothing is saved and control goes nowhere
(log 8). -/
def State.raise (s : State) (op : OpCode) (cause : Cause) (value : BitVec 32) : State :=
  { s with halted := true, cause := Cause.toCode cause, diagOp := op, diagValue := value }

/-- Reset (R630), the only way out of the exception (R607): the latch and the cause 0, `diag`
unspecified (free values), the stream and the cursor untouched. -/
def State.takeReset (s : State) : State :=
  { s with
    halted := false
    cause := 0
    diagOp := Config.freeDiagOp s.freeCount
    diagValue := Config.freeDiagValue s.freeCount
    freeCount := s.freeCount + 1 }

/-- The step of a request of one operation (R160): refused with no state change while the latch is set
(R606); otherwise the checks in order, the first that fails raised (R609), and the word that the run's
format table builds (R164) appended if none does. -/
def perform (op : OpCode) (checks : List Check) (p : Placement) (s : State) : Result :=
  if s.halted then .next s
  else
    match firstFailed checks with
    | some c => .next (s.raise op c.cause c.value)
    | none => .next (s.append (s.formatTable.word op p))

end Sys2Proof.Machine
end

