-- ==== Sys2Proof/Machine/Compare.lean ====
section
/-! DEFINITION. The meanings of the operations of spec/42_compare.md (R229 to R244), one definition each:
the `require` lines in the order the rule writes them, and the word its packer builds from what the table gives its fields (R178). -/

namespace Sys2Proof.Machine

/-- R229, what the default table gives `cmpge_imm`: format `CMP_IMM_SIGNED` (R107) and its fields. -/
def placeCmpgeImm (size : ReqInt) (pd : PReg) (pg : GovPred) (zn : VReg) (imm : ReqInt) : Placement :=
  ⟨.cmpImmSigned,
   [(.size, .expr (sizecode size)), (.imm5, .expr (modField imm 32)), (.op, .const 0b0),
    (.o2, .const 0b0), (.pg, .expr pg.idx.toNat), (.zn, .expr zn.toNat), (.ne, .const 0b0),
    (.pd, .expr pd.toNat)]⟩

/-- R229 `cmpge_imm`: CMPGE (compare vector signed greater than or equal to signed immediate). -/
def execCmpgeImm (size : ReqInt) (pd : PReg) (pg : GovPred) (zn : VReg) (imm : ReqInt) (s : State) : Result :=
  perform .cmpgeImm
    [requireSize [8, 16, 32, 64] size,
     requireLowPredicate pg,
     requireStyle [Style.zeroing] pg,
     requireInterval (-16) 15 imm]
    (placeCmpgeImm size pd pg zn imm) s

/-- R230, what the default table gives `cmpgt_imm`: format `CMP_IMM_SIGNED` (R107) and its fields. -/
def placeCmpgtImm (size : ReqInt) (pd : PReg) (pg : GovPred) (zn : VReg) (imm : ReqInt) : Placement :=
  ⟨.cmpImmSigned,
   [(.size, .expr (sizecode size)), (.imm5, .expr (modField imm 32)), (.op, .const 0b0),
    (.o2, .const 0b0), (.pg, .expr pg.idx.toNat), (.zn, .expr zn.toNat), (.ne, .const 0b1),
    (.pd, .expr pd.toNat)]⟩

/-- R230 `cmpgt_imm`: CMPGT (compare vector signed greater than to signed immediate). -/
def execCmpgtImm (size : ReqInt) (pd : PReg) (pg : GovPred) (zn : VReg) (imm : ReqInt) (s : State) : Result :=
  perform .cmpgtImm
    [requireSize [8, 16, 32, 64] size,
     requireLowPredicate pg,
     requireStyle [Style.zeroing] pg,
     requireInterval (-16) 15 imm]
    (placeCmpgtImm size pd pg zn imm) s

/-- R231, what the default table gives `cmplt_imm`: format `CMP_IMM_SIGNED` (R107) and its fields. -/
def placeCmpltImm (size : ReqInt) (pd : PReg) (pg : GovPred) (zn : VReg) (imm : ReqInt) : Placement :=
  ⟨.cmpImmSigned,
   [(.size, .expr (sizecode size)), (.imm5, .expr (modField imm 32)), (.op, .const 0b0),
    (.o2, .const 0b1), (.pg, .expr pg.idx.toNat), (.zn, .expr zn.toNat), (.ne, .const 0b0),
    (.pd, .expr pd.toNat)]⟩

/-- R231 `cmplt_imm`: CMPLT (compare vector signed less than to signed immediate). -/
def execCmpltImm (size : ReqInt) (pd : PReg) (pg : GovPred) (zn : VReg) (imm : ReqInt) (s : State) : Result :=
  perform .cmpltImm
    [requireSize [8, 16, 32, 64] size,
     requireLowPredicate pg,
     requireStyle [Style.zeroing] pg,
     requireInterval (-16) 15 imm]
    (placeCmpltImm size pd pg zn imm) s

/-- R232, what the default table gives `cmple_imm`: format `CMP_IMM_SIGNED` (R107) and its fields. -/
def placeCmpleImm (size : ReqInt) (pd : PReg) (pg : GovPred) (zn : VReg) (imm : ReqInt) : Placement :=
  ⟨.cmpImmSigned,
   [(.size, .expr (sizecode size)), (.imm5, .expr (modField imm 32)), (.op, .const 0b0),
    (.o2, .const 0b1), (.pg, .expr pg.idx.toNat), (.zn, .expr zn.toNat), (.ne, .const 0b1),
    (.pd, .expr pd.toNat)]⟩

/-- R232 `cmple_imm`: CMPLE (compare vector signed less than or equal to signed immediate). -/
def execCmpleImm (size : ReqInt) (pd : PReg) (pg : GovPred) (zn : VReg) (imm : ReqInt) (s : State) : Result :=
  perform .cmpleImm
    [requireSize [8, 16, 32, 64] size,
     requireLowPredicate pg,
     requireStyle [Style.zeroing] pg,
     requireInterval (-16) 15 imm]
    (placeCmpleImm size pd pg zn imm) s

/-- R233, what the default table gives `cmpeq_imm`: format `CMP_IMM_SIGNED` (R107) and its fields. -/
def placeCmpeqImm (size : ReqInt) (pd : PReg) (pg : GovPred) (zn : VReg) (imm : ReqInt) : Placement :=
  ⟨.cmpImmSigned,
   [(.size, .expr (sizecode size)), (.imm5, .expr (modField imm 32)), (.op, .const 0b1),
    (.o2, .const 0b0), (.pg, .expr pg.idx.toNat), (.zn, .expr zn.toNat), (.ne, .const 0b0),
    (.pd, .expr pd.toNat)]⟩

/-- R233 `cmpeq_imm`: CMPEQ (compare vector equal to signed immediate). -/
def execCmpeqImm (size : ReqInt) (pd : PReg) (pg : GovPred) (zn : VReg) (imm : ReqInt) (s : State) : Result :=
  perform .cmpeqImm
    [requireSize [8, 16, 32, 64] size,
     requireLowPredicate pg,
     requireStyle [Style.zeroing] pg,
     requireInterval (-16) 15 imm]
    (placeCmpeqImm size pd pg zn imm) s

/-- R234, what the default table gives `cmpne_imm`: format `CMP_IMM_SIGNED` (R107) and its fields. -/
def placeCmpneImm (size : ReqInt) (pd : PReg) (pg : GovPred) (zn : VReg) (imm : ReqInt) : Placement :=
  ⟨.cmpImmSigned,
   [(.size, .expr (sizecode size)), (.imm5, .expr (modField imm 32)), (.op, .const 0b1),
    (.o2, .const 0b0), (.pg, .expr pg.idx.toNat), (.zn, .expr zn.toNat), (.ne, .const 0b1),
    (.pd, .expr pd.toNat)]⟩

/-- R234 `cmpne_imm`: CMPNE (compare vector not equal to signed immediate). -/
def execCmpneImm (size : ReqInt) (pd : PReg) (pg : GovPred) (zn : VReg) (imm : ReqInt) (s : State) : Result :=
  perform .cmpneImm
    [requireSize [8, 16, 32, 64] size,
     requireLowPredicate pg,
     requireStyle [Style.zeroing] pg,
     requireInterval (-16) 15 imm]
    (placeCmpneImm size pd pg zn imm) s

/-- R235, what the default table gives `cmphs_imm`: format `CMP_IMM_UNSIGNED` (R108) and its fields. -/
def placeCmphsImm (size : ReqInt) (pd : PReg) (pg : GovPred) (zn : VReg) (imm : ReqInt) : Placement :=
  ⟨.cmpImmUnsigned,
   [(.size, .expr (sizecode size)), (.imm7, .expr imm.toNat), (.lt, .const 0b0),
    (.pg, .expr pg.idx.toNat), (.zn, .expr zn.toNat), (.ne, .const 0b0), (.pd, .expr pd.toNat)]⟩

/-- R235 `cmphs_imm`: CMPHS (compare vector unsigned higher or same to unsigned immediate). -/
def execCmphsImm (size : ReqInt) (pd : PReg) (pg : GovPred) (zn : VReg) (imm : ReqInt) (s : State) : Result :=
  perform .cmphsImm
    [requireSize [8, 16, 32, 64] size,
     requireLowPredicate pg,
     requireStyle [Style.zeroing] pg,
     requireInterval 0 127 imm]
    (placeCmphsImm size pd pg zn imm) s

/-- R236, what the default table gives `cmphi_imm`: format `CMP_IMM_UNSIGNED` (R108) and its fields. -/
def placeCmphiImm (size : ReqInt) (pd : PReg) (pg : GovPred) (zn : VReg) (imm : ReqInt) : Placement :=
  ⟨.cmpImmUnsigned,
   [(.size, .expr (sizecode size)), (.imm7, .expr imm.toNat), (.lt, .const 0b0),
    (.pg, .expr pg.idx.toNat), (.zn, .expr zn.toNat), (.ne, .const 0b1), (.pd, .expr pd.toNat)]⟩

/-- R236 `cmphi_imm`: CMPHI (compare vector unsigned higher to unsigned immediate). -/
def execCmphiImm (size : ReqInt) (pd : PReg) (pg : GovPred) (zn : VReg) (imm : ReqInt) (s : State) : Result :=
  perform .cmphiImm
    [requireSize [8, 16, 32, 64] size,
     requireLowPredicate pg,
     requireStyle [Style.zeroing] pg,
     requireInterval 0 127 imm]
    (placeCmphiImm size pd pg zn imm) s

/-- R237, what the default table gives `cmplo_imm`: format `CMP_IMM_UNSIGNED` (R108) and its fields. -/
def placeCmploImm (size : ReqInt) (pd : PReg) (pg : GovPred) (zn : VReg) (imm : ReqInt) : Placement :=
  ⟨.cmpImmUnsigned,
   [(.size, .expr (sizecode size)), (.imm7, .expr imm.toNat), (.lt, .const 0b1),
    (.pg, .expr pg.idx.toNat), (.zn, .expr zn.toNat), (.ne, .const 0b0), (.pd, .expr pd.toNat)]⟩

/-- R237 `cmplo_imm`: CMPLO (compare vector unsigned lower to unsigned immediate). -/
def execCmploImm (size : ReqInt) (pd : PReg) (pg : GovPred) (zn : VReg) (imm : ReqInt) (s : State) : Result :=
  perform .cmploImm
    [requireSize [8, 16, 32, 64] size,
     requireLowPredicate pg,
     requireStyle [Style.zeroing] pg,
     requireInterval 0 127 imm]
    (placeCmploImm size pd pg zn imm) s

/-- R238, what the default table gives `cmpls_imm`: format `CMP_IMM_UNSIGNED` (R108) and its fields. -/
def placeCmplsImm (size : ReqInt) (pd : PReg) (pg : GovPred) (zn : VReg) (imm : ReqInt) : Placement :=
  ⟨.cmpImmUnsigned,
   [(.size, .expr (sizecode size)), (.imm7, .expr imm.toNat), (.lt, .const 0b1),
    (.pg, .expr pg.idx.toNat), (.zn, .expr zn.toNat), (.ne, .const 0b1), (.pd, .expr pd.toNat)]⟩

/-- R238 `cmpls_imm`: CMPLS (compare vector unsigned lower or same to unsigned immediate). -/
def execCmplsImm (size : ReqInt) (pd : PReg) (pg : GovPred) (zn : VReg) (imm : ReqInt) (s : State) : Result :=
  perform .cmplsImm
    [requireSize [8, 16, 32, 64] size,
     requireLowPredicate pg,
     requireStyle [Style.zeroing] pg,
     requireInterval 0 127 imm]
    (placeCmplsImm size pd pg zn imm) s

/-- R239, what the default table gives `cmphs_vec`: format `CMP_VEC` (R109) and its fields. -/
def placeCmphsVec (size : ReqInt) (pd : PReg) (pg : GovPred) (zn zm : VReg) : Placement :=
  ⟨.cmpVec,
   [(.size, .expr (sizecode size)), (.zm, .expr zm.toNat), (.op, .const 0b0), (.o2, .const 0b0),
    (.pg, .expr pg.idx.toNat), (.zn, .expr zn.toNat), (.ne, .const 0b0), (.pd, .expr pd.toNat)]⟩

/-- R239 `cmphs_vec`: CMPHS (compare vectors unsigned higher or same). -/
def execCmphsVec (size : ReqInt) (pd : PReg) (pg : GovPred) (zn zm : VReg) (s : State) : Result :=
  perform .cmphsVec
    [requireSize [8, 16, 32, 64] size, requireLowPredicate pg, requireStyle [Style.zeroing] pg]
    (placeCmphsVec size pd pg zn zm) s

/-- R240, what the default table gives `cmphi_vec`: format `CMP_VEC` (R109) and its fields. -/
def placeCmphiVec (size : ReqInt) (pd : PReg) (pg : GovPred) (zn zm : VReg) : Placement :=
  ⟨.cmpVec,
   [(.size, .expr (sizecode size)), (.zm, .expr zm.toNat), (.op, .const 0b0), (.o2, .const 0b0),
    (.pg, .expr pg.idx.toNat), (.zn, .expr zn.toNat), (.ne, .const 0b1), (.pd, .expr pd.toNat)]⟩

/-- R240 `cmphi_vec`: CMPHI (compare vectors unsigned higher). -/
def execCmphiVec (size : ReqInt) (pd : PReg) (pg : GovPred) (zn zm : VReg) (s : State) : Result :=
  perform .cmphiVec
    [requireSize [8, 16, 32, 64] size, requireLowPredicate pg, requireStyle [Style.zeroing] pg]
    (placeCmphiVec size pd pg zn zm) s

/-- R241, what the default table gives `cmpge_vec`: format `CMP_VEC` (R109) and its fields. -/
def placeCmpgeVec (size : ReqInt) (pd : PReg) (pg : GovPred) (zn zm : VReg) : Placement :=
  ⟨.cmpVec,
   [(.size, .expr (sizecode size)), (.zm, .expr zm.toNat), (.op, .const 0b1), (.o2, .const 0b0),
    (.pg, .expr pg.idx.toNat), (.zn, .expr zn.toNat), (.ne, .const 0b0), (.pd, .expr pd.toNat)]⟩

/-- R241 `cmpge_vec`: CMPGE (compare vectors signed greater than or equal). -/
def execCmpgeVec (size : ReqInt) (pd : PReg) (pg : GovPred) (zn zm : VReg) (s : State) : Result :=
  perform .cmpgeVec
    [requireSize [8, 16, 32, 64] size, requireLowPredicate pg, requireStyle [Style.zeroing] pg]
    (placeCmpgeVec size pd pg zn zm) s

/-- R242, what the default table gives `cmpgt_vec`: format `CMP_VEC` (R109) and its fields. -/
def placeCmpgtVec (size : ReqInt) (pd : PReg) (pg : GovPred) (zn zm : VReg) : Placement :=
  ⟨.cmpVec,
   [(.size, .expr (sizecode size)), (.zm, .expr zm.toNat), (.op, .const 0b1), (.o2, .const 0b0),
    (.pg, .expr pg.idx.toNat), (.zn, .expr zn.toNat), (.ne, .const 0b1), (.pd, .expr pd.toNat)]⟩

/-- R242 `cmpgt_vec`: CMPGT (compare vectors signed greater than). -/
def execCmpgtVec (size : ReqInt) (pd : PReg) (pg : GovPred) (zn zm : VReg) (s : State) : Result :=
  perform .cmpgtVec
    [requireSize [8, 16, 32, 64] size, requireLowPredicate pg, requireStyle [Style.zeroing] pg]
    (placeCmpgtVec size pd pg zn zm) s

/-- R243, what the default table gives `cmpeq_vec`: format `CMP_VEC` (R109) and its fields. -/
def placeCmpeqVec (size : ReqInt) (pd : PReg) (pg : GovPred) (zn zm : VReg) : Placement :=
  ⟨.cmpVec,
   [(.size, .expr (sizecode size)), (.zm, .expr zm.toNat), (.op, .const 0b1), (.o2, .const 0b1),
    (.pg, .expr pg.idx.toNat), (.zn, .expr zn.toNat), (.ne, .const 0b0), (.pd, .expr pd.toNat)]⟩

/-- R243 `cmpeq_vec`: CMPEQ (compare vectors equal). -/
def execCmpeqVec (size : ReqInt) (pd : PReg) (pg : GovPred) (zn zm : VReg) (s : State) : Result :=
  perform .cmpeqVec
    [requireSize [8, 16, 32, 64] size, requireLowPredicate pg, requireStyle [Style.zeroing] pg]
    (placeCmpeqVec size pd pg zn zm) s

/-- R244, what the default table gives `cmpne_vec`: format `CMP_VEC` (R109) and its fields. -/
def placeCmpneVec (size : ReqInt) (pd : PReg) (pg : GovPred) (zn zm : VReg) : Placement :=
  ⟨.cmpVec,
   [(.size, .expr (sizecode size)), (.zm, .expr zm.toNat), (.op, .const 0b1), (.o2, .const 0b1),
    (.pg, .expr pg.idx.toNat), (.zn, .expr zn.toNat), (.ne, .const 0b1), (.pd, .expr pd.toNat)]⟩

/-- R244 `cmpne_vec`: CMPNE (compare vectors not equal). -/
def execCmpneVec (size : ReqInt) (pd : PReg) (pg : GovPred) (zn zm : VReg) (s : State) : Result :=
  perform .cmpneVec
    [requireSize [8, 16, 32, 64] size, requireLowPredicate pg, requireStyle [Style.zeroing] pg]
    (placeCmpneVec size pd pg zn zm) s

end Sys2Proof.Machine
end

