-- ==== Sys2Proof/Machine/ContiguousMemory.lean ====
section
/-! DEFINITION. The meanings of the operations of spec/46_loadstore_contiguous.md (R319 to R340), one definition each:
the `require` lines in the order the rule writes them, and the word its packer builds from what the table gives its fields (R178). -/

namespace Sys2Proof.Machine

/-- R319, what the default table gives `ld1b_ss`: format `LD1_SS` (R130) and its fields. -/
def placeLd1bSs (size : ReqInt) (zt : VReg) (pg : GovPred) (rn rm : XReg) : Placement :=
  ⟨.ld1Ss,
   [(.dtype, .expr (sizecode size)), (.rm, .expr rm.toNat), (.pg, .expr pg.idx.toNat),
    (.rn, .expr rn.toNat), (.zt, .expr zt.toNat)]⟩

/-- R319 `ld1b_ss`: LD1B (contiguous load of unsigned bytes to elements of size `size`, scalar base plus scalar index). -/
def execLd1bSs (size : ReqInt) (zt : VReg) (pg : GovPred) (rn rm : XReg) (s : State) : Result :=
  perform .ld1bSs
    [requireSize [8, 16, 32, 64] size, requireLowPredicate pg, requireStyle [Style.zeroing] pg]
    (placeLd1bSs size zt pg rn rm) s

/-- R320, what the default table gives `ld1b_si`: format `LD1_SI` (R131) and its fields. -/
def placeLd1bSi (size : ReqInt) (zt : VReg) (pg : GovPred) (rn : XReg) (imm : ReqInt) : Placement :=
  ⟨.ld1Si,
   [(.dtype, .expr (sizecode size)), (.imm4, .expr (modField imm 16)), (.pg, .expr pg.idx.toNat),
    (.rn, .expr rn.toNat), (.zt, .expr zt.toNat)]⟩

/-- R320 `ld1b_si`: LD1B (contiguous load of unsigned bytes to elements of size `size`, scalar base plus immediate (in vector lengths)). -/
def execLd1bSi (size : ReqInt) (zt : VReg) (pg : GovPred) (rn : XReg) (imm : ReqInt) (s : State) : Result :=
  perform .ld1bSi
    [requireSize [8, 16, 32, 64] size,
     requireLowPredicate pg,
     requireStyle [Style.zeroing] pg,
     requireInterval (-8) 7 imm]
    (placeLd1bSi size zt pg rn imm) s

/-- R321, what the default table gives `ld1sw_ss`: format `LD1_SS` (R130) and its fields. -/
def placeLd1swSs (zt : VReg) (pg : GovPred) (rn rm : XReg) : Placement :=
  ⟨.ld1Ss,
   [(.dtype, .expr 0b0100), (.rm, .expr rm.toNat), (.pg, .expr pg.idx.toNat), (.rn, .expr rn.toNat),
    (.zt, .expr zt.toNat)]⟩

/-- R321 `ld1sw_ss`: LD1SW (contiguous load of signed words to elements of size `size`, scalar base plus scalar index). -/
def execLd1swSs (size : ReqInt) (zt : VReg) (pg : GovPred) (rn rm : XReg) (s : State) : Result :=
  perform .ld1swSs [requireSize [64] size, requireLowPredicate pg, requireStyle [Style.zeroing] pg]
    (placeLd1swSs zt pg rn rm) s

/-- R322, what the default table gives `ld1sw_si`: format `LD1_SI` (R131) and its fields. -/
def placeLd1swSi (zt : VReg) (pg : GovPred) (rn : XReg) (imm : ReqInt) : Placement :=
  ⟨.ld1Si,
   [(.dtype, .expr 0b0100), (.imm4, .expr (modField imm 16)), (.pg, .expr pg.idx.toNat),
    (.rn, .expr rn.toNat), (.zt, .expr zt.toNat)]⟩

/-- R322 `ld1sw_si`: LD1SW (contiguous load of signed words to elements of size `size`, scalar base plus immediate (in vector lengths)). -/
def execLd1swSi (size : ReqInt) (zt : VReg) (pg : GovPred) (rn : XReg) (imm : ReqInt) (s : State) : Result :=
  perform .ld1swSi
    [requireSize [64] size,
     requireLowPredicate pg,
     requireStyle [Style.zeroing] pg,
     requireInterval (-8) 7 imm]
    (placeLd1swSi zt pg rn imm) s

/-- R323, what the default table gives `ld1h_ss`: format `LD1_SS` (R130) and its fields. -/
def placeLd1hSs (size : ReqInt) (zt : VReg) (pg : GovPred) (rn rm : XReg) : Placement :=
  ⟨.ld1Ss,
   [(.dtype, .expr (0b0100 + sizecode size)), (.rm, .expr rm.toNat), (.pg, .expr pg.idx.toNat),
    (.rn, .expr rn.toNat), (.zt, .expr zt.toNat)]⟩

/-- R323 `ld1h_ss`: LD1H (contiguous load of unsigned halfwords to elements of size `size`, scalar base plus scalar index). -/
def execLd1hSs (size : ReqInt) (zt : VReg) (pg : GovPred) (rn rm : XReg) (s : State) : Result :=
  perform .ld1hSs
    [requireSize [16, 32, 64] size, requireLowPredicate pg, requireStyle [Style.zeroing] pg]
    (placeLd1hSs size zt pg rn rm) s

/-- R324, what the default table gives `ld1h_si`: format `LD1_SI` (R131) and its fields. -/
def placeLd1hSi (size : ReqInt) (zt : VReg) (pg : GovPred) (rn : XReg) (imm : ReqInt) : Placement :=
  ⟨.ld1Si,
   [(.dtype, .expr (0b0100 + sizecode size)), (.imm4, .expr (modField imm 16)),
    (.pg, .expr pg.idx.toNat), (.rn, .expr rn.toNat), (.zt, .expr zt.toNat)]⟩

/-- R324 `ld1h_si`: LD1H (contiguous load of unsigned halfwords to elements of size `size`, scalar base plus immediate (in vector lengths)). -/
def execLd1hSi (size : ReqInt) (zt : VReg) (pg : GovPred) (rn : XReg) (imm : ReqInt) (s : State) : Result :=
  perform .ld1hSi
    [requireSize [16, 32, 64] size,
     requireLowPredicate pg,
     requireStyle [Style.zeroing] pg,
     requireInterval (-8) 7 imm]
    (placeLd1hSi size zt pg rn imm) s

/-- R325, what the default table gives `ld1sh_ss`: format `LD1_SS` (R130) and its fields. -/
def placeLd1shSs (size : ReqInt) (zt : VReg) (pg : GovPred) (rn rm : XReg) : Placement :=
  ⟨.ld1Ss,
   [(.dtype, .expr (0b1011 - sizecode size)), (.rm, .expr rm.toNat), (.pg, .expr pg.idx.toNat),
    (.rn, .expr rn.toNat), (.zt, .expr zt.toNat)]⟩

/-- R325 `ld1sh_ss`: LD1SH (contiguous load of signed halfwords to elements of size `size`, scalar base plus scalar index). -/
def execLd1shSs (size : ReqInt) (zt : VReg) (pg : GovPred) (rn rm : XReg) (s : State) : Result :=
  perform .ld1shSs
    [requireSize [32, 64] size, requireLowPredicate pg, requireStyle [Style.zeroing] pg]
    (placeLd1shSs size zt pg rn rm) s

/-- R326, what the default table gives `ld1sh_si`: format `LD1_SI` (R131) and its fields. -/
def placeLd1shSi (size : ReqInt) (zt : VReg) (pg : GovPred) (rn : XReg) (imm : ReqInt) : Placement :=
  ⟨.ld1Si,
   [(.dtype, .expr (0b1011 - sizecode size)), (.imm4, .expr (modField imm 16)),
    (.pg, .expr pg.idx.toNat), (.rn, .expr rn.toNat), (.zt, .expr zt.toNat)]⟩

/-- R326 `ld1sh_si`: LD1SH (contiguous load of signed halfwords to elements of size `size`, scalar base plus immediate (in vector lengths)). -/
def execLd1shSi (size : ReqInt) (zt : VReg) (pg : GovPred) (rn : XReg) (imm : ReqInt) (s : State) : Result :=
  perform .ld1shSi
    [requireSize [32, 64] size,
     requireLowPredicate pg,
     requireStyle [Style.zeroing] pg,
     requireInterval (-8) 7 imm]
    (placeLd1shSi size zt pg rn imm) s

/-- R327, what the default table gives `ld1w_ss`: format `LD1_SS` (R130) and its fields. -/
def placeLd1wSs (size : ReqInt) (zt : VReg) (pg : GovPred) (rn rm : XReg) : Placement :=
  ⟨.ld1Ss,
   [(.dtype, .expr (0b1000 + sizecode size)), (.rm, .expr rm.toNat), (.pg, .expr pg.idx.toNat),
    (.rn, .expr rn.toNat), (.zt, .expr zt.toNat)]⟩

/-- R327 `ld1w_ss`: LD1W (contiguous load of unsigned words to elements of size `size`, scalar base plus scalar index). -/
def execLd1wSs (size : ReqInt) (zt : VReg) (pg : GovPred) (rn rm : XReg) (s : State) : Result :=
  perform .ld1wSs
    [requireSize [32, 64] size, requireLowPredicate pg, requireStyle [Style.zeroing] pg]
    (placeLd1wSs size zt pg rn rm) s

/-- R328, what the default table gives `ld1w_si`: format `LD1_SI` (R131) and its fields. -/
def placeLd1wSi (size : ReqInt) (zt : VReg) (pg : GovPred) (rn : XReg) (imm : ReqInt) : Placement :=
  ⟨.ld1Si,
   [(.dtype, .expr (0b1000 + sizecode size)), (.imm4, .expr (modField imm 16)),
    (.pg, .expr pg.idx.toNat), (.rn, .expr rn.toNat), (.zt, .expr zt.toNat)]⟩

/-- R328 `ld1w_si`: LD1W (contiguous load of unsigned words to elements of size `size`, scalar base plus immediate (in vector lengths)). -/
def execLd1wSi (size : ReqInt) (zt : VReg) (pg : GovPred) (rn : XReg) (imm : ReqInt) (s : State) : Result :=
  perform .ld1wSi
    [requireSize [32, 64] size,
     requireLowPredicate pg,
     requireStyle [Style.zeroing] pg,
     requireInterval (-8) 7 imm]
    (placeLd1wSi size zt pg rn imm) s

/-- R329, what the default table gives `ld1sb_ss`: format `LD1_SS` (R130) and its fields. -/
def placeLd1sbSs (size : ReqInt) (zt : VReg) (pg : GovPred) (rn rm : XReg) : Placement :=
  ⟨.ld1Ss,
   [(.dtype, .expr (0b1111 - sizecode size)), (.rm, .expr rm.toNat), (.pg, .expr pg.idx.toNat),
    (.rn, .expr rn.toNat), (.zt, .expr zt.toNat)]⟩

/-- R329 `ld1sb_ss`: LD1SB (contiguous load of signed bytes to elements of size `size`, scalar base plus scalar index). -/
def execLd1sbSs (size : ReqInt) (zt : VReg) (pg : GovPred) (rn rm : XReg) (s : State) : Result :=
  perform .ld1sbSs
    [requireSize [16, 32, 64] size, requireLowPredicate pg, requireStyle [Style.zeroing] pg]
    (placeLd1sbSs size zt pg rn rm) s

/-- R330, what the default table gives `ld1sb_si`: format `LD1_SI` (R131) and its fields. -/
def placeLd1sbSi (size : ReqInt) (zt : VReg) (pg : GovPred) (rn : XReg) (imm : ReqInt) : Placement :=
  ⟨.ld1Si,
   [(.dtype, .expr (0b1111 - sizecode size)), (.imm4, .expr (modField imm 16)),
    (.pg, .expr pg.idx.toNat), (.rn, .expr rn.toNat), (.zt, .expr zt.toNat)]⟩

/-- R330 `ld1sb_si`: LD1SB (contiguous load of signed bytes to elements of size `size`, scalar base plus immediate (in vector lengths)). -/
def execLd1sbSi (size : ReqInt) (zt : VReg) (pg : GovPred) (rn : XReg) (imm : ReqInt) (s : State) : Result :=
  perform .ld1sbSi
    [requireSize [16, 32, 64] size,
     requireLowPredicate pg,
     requireStyle [Style.zeroing] pg,
     requireInterval (-8) 7 imm]
    (placeLd1sbSi size zt pg rn imm) s

/-- R331, what the default table gives `ld1d_ss`: format `LD1_SS` (R130) and its fields. -/
def placeLd1dSs (zt : VReg) (pg : GovPred) (rn rm : XReg) : Placement :=
  ⟨.ld1Ss,
   [(.dtype, .expr 0b1111), (.rm, .expr rm.toNat), (.pg, .expr pg.idx.toNat), (.rn, .expr rn.toNat),
    (.zt, .expr zt.toNat)]⟩

/-- R331 `ld1d_ss`: LD1D (contiguous load of doublewords to elements of size `size`, scalar base plus scalar index). -/
def execLd1dSs (size : ReqInt) (zt : VReg) (pg : GovPred) (rn rm : XReg) (s : State) : Result :=
  perform .ld1dSs [requireSize [64] size, requireLowPredicate pg, requireStyle [Style.zeroing] pg]
    (placeLd1dSs zt pg rn rm) s

/-- R332, what the default table gives `ld1d_si`: format `LD1_SI` (R131) and its fields. -/
def placeLd1dSi (zt : VReg) (pg : GovPred) (rn : XReg) (imm : ReqInt) : Placement :=
  ⟨.ld1Si,
   [(.dtype, .expr 0b1111), (.imm4, .expr (modField imm 16)), (.pg, .expr pg.idx.toNat),
    (.rn, .expr rn.toNat), (.zt, .expr zt.toNat)]⟩

/-- R332 `ld1d_si`: LD1D (contiguous load of doublewords to elements of size `size`, scalar base plus immediate (in vector lengths)). -/
def execLd1dSi (size : ReqInt) (zt : VReg) (pg : GovPred) (rn : XReg) (imm : ReqInt) (s : State) : Result :=
  perform .ld1dSi
    [requireSize [64] size,
     requireLowPredicate pg,
     requireStyle [Style.zeroing] pg,
     requireInterval (-8) 7 imm]
    (placeLd1dSi zt pg rn imm) s

/-- R333, what the default table gives `st1b_ss`: format `ST1_SS` (R132) and its fields. -/
def placeSt1bSs (size : ReqInt) (zt : VReg) (pg : GovPred) (rn rm : XReg) : Placement :=
  ⟨.st1Ss,
   [(.msz, .const 0b00), (.size, .expr (sizecode size)), (.rm, .expr rm.toNat),
    (.pg, .expr pg.idx.toNat), (.rn, .expr rn.toNat), (.zt, .expr zt.toNat)]⟩

/-- R333 `st1b_ss`: ST1B (contiguous store of bytes from elements of size `size`, scalar base plus scalar index). -/
def execSt1bSs (size : ReqInt) (zt : VReg) (pg : GovPred) (rn rm : XReg) (s : State) : Result :=
  perform .st1bSs
    [requireSize [8, 16, 32, 64] size, requireLowPredicate pg, requireStyle [Style.plain] pg]
    (placeSt1bSs size zt pg rn rm) s

/-- R334, what the default table gives `st1b_si`: format `ST1_SI` (R133) and its fields. -/
def placeSt1bSi (size : ReqInt) (zt : VReg) (pg : GovPred) (rn : XReg) (imm : ReqInt) : Placement :=
  ⟨.st1Si,
   [(.msz, .const 0b00), (.size, .expr (sizecode size)), (.imm4, .expr (modField imm 16)),
    (.pg, .expr pg.idx.toNat), (.rn, .expr rn.toNat), (.zt, .expr zt.toNat)]⟩

/-- R334 `st1b_si`: ST1B (contiguous store of bytes from elements of size `size`, scalar base plus immediate (in vector lengths)). -/
def execSt1bSi (size : ReqInt) (zt : VReg) (pg : GovPred) (rn : XReg) (imm : ReqInt) (s : State) : Result :=
  perform .st1bSi
    [requireSize [8, 16, 32, 64] size,
     requireLowPredicate pg,
     requireStyle [Style.plain] pg,
     requireInterval (-8) 7 imm]
    (placeSt1bSi size zt pg rn imm) s

/-- R335, what the default table gives `st1h_ss`: format `ST1_SS` (R132) and its fields. -/
def placeSt1hSs (size : ReqInt) (zt : VReg) (pg : GovPred) (rn rm : XReg) : Placement :=
  ⟨.st1Ss,
   [(.msz, .const 0b01), (.size, .expr (sizecode size)), (.rm, .expr rm.toNat),
    (.pg, .expr pg.idx.toNat), (.rn, .expr rn.toNat), (.zt, .expr zt.toNat)]⟩

/-- R335 `st1h_ss`: ST1H (contiguous store of halfwords from elements of size `size`, scalar base plus scalar index). -/
def execSt1hSs (size : ReqInt) (zt : VReg) (pg : GovPred) (rn rm : XReg) (s : State) : Result :=
  perform .st1hSs
    [requireSize [16, 32, 64] size, requireLowPredicate pg, requireStyle [Style.plain] pg]
    (placeSt1hSs size zt pg rn rm) s

/-- R336, what the default table gives `st1h_si`: format `ST1_SI` (R133) and its fields. -/
def placeSt1hSi (size : ReqInt) (zt : VReg) (pg : GovPred) (rn : XReg) (imm : ReqInt) : Placement :=
  ⟨.st1Si,
   [(.msz, .const 0b01), (.size, .expr (sizecode size)), (.imm4, .expr (modField imm 16)),
    (.pg, .expr pg.idx.toNat), (.rn, .expr rn.toNat), (.zt, .expr zt.toNat)]⟩

/-- R336 `st1h_si`: ST1H (contiguous store of halfwords from elements of size `size`, scalar base plus immediate (in vector lengths)). -/
def execSt1hSi (size : ReqInt) (zt : VReg) (pg : GovPred) (rn : XReg) (imm : ReqInt) (s : State) : Result :=
  perform .st1hSi
    [requireSize [16, 32, 64] size,
     requireLowPredicate pg,
     requireStyle [Style.plain] pg,
     requireInterval (-8) 7 imm]
    (placeSt1hSi size zt pg rn imm) s

/-- R337, what the default table gives `st1w_ss`: format `ST1_SS` (R132) and its fields. -/
def placeSt1wSs (size : ReqInt) (zt : VReg) (pg : GovPred) (rn rm : XReg) : Placement :=
  ⟨.st1Ss,
   [(.msz, .const 0b10), (.size, .expr (sizecode size)), (.rm, .expr rm.toNat),
    (.pg, .expr pg.idx.toNat), (.rn, .expr rn.toNat), (.zt, .expr zt.toNat)]⟩

/-- R337 `st1w_ss`: ST1W (contiguous store of words from elements of size `size`, scalar base plus scalar index). -/
def execSt1wSs (size : ReqInt) (zt : VReg) (pg : GovPred) (rn rm : XReg) (s : State) : Result :=
  perform .st1wSs [requireSize [32, 64] size, requireLowPredicate pg, requireStyle [Style.plain] pg]
    (placeSt1wSs size zt pg rn rm) s

/-- R338, what the default table gives `st1w_si`: format `ST1_SI` (R133) and its fields. -/
def placeSt1wSi (size : ReqInt) (zt : VReg) (pg : GovPred) (rn : XReg) (imm : ReqInt) : Placement :=
  ⟨.st1Si,
   [(.msz, .const 0b10), (.size, .expr (sizecode size)), (.imm4, .expr (modField imm 16)),
    (.pg, .expr pg.idx.toNat), (.rn, .expr rn.toNat), (.zt, .expr zt.toNat)]⟩

/-- R338 `st1w_si`: ST1W (contiguous store of words from elements of size `size`, scalar base plus immediate (in vector lengths)). -/
def execSt1wSi (size : ReqInt) (zt : VReg) (pg : GovPred) (rn : XReg) (imm : ReqInt) (s : State) : Result :=
  perform .st1wSi
    [requireSize [32, 64] size,
     requireLowPredicate pg,
     requireStyle [Style.plain] pg,
     requireInterval (-8) 7 imm]
    (placeSt1wSi size zt pg rn imm) s

/-- R339, what the default table gives `st1d_ss`: format `ST1_SS` (R132) and its fields. -/
def placeSt1dSs (size : ReqInt) (zt : VReg) (pg : GovPred) (rn rm : XReg) : Placement :=
  ⟨.st1Ss,
   [(.msz, .const 0b11), (.size, .expr (sizecode size)), (.rm, .expr rm.toNat),
    (.pg, .expr pg.idx.toNat), (.rn, .expr rn.toNat), (.zt, .expr zt.toNat)]⟩

/-- R339 `st1d_ss`: ST1D (contiguous store of doublewords from elements of size `size`, scalar base plus scalar index). -/
def execSt1dSs (size : ReqInt) (zt : VReg) (pg : GovPred) (rn rm : XReg) (s : State) : Result :=
  perform .st1dSs [requireSize [64] size, requireLowPredicate pg, requireStyle [Style.plain] pg]
    (placeSt1dSs size zt pg rn rm) s

/-- R340, what the default table gives `st1d_si`: format `ST1_SI` (R133) and its fields. -/
def placeSt1dSi (size : ReqInt) (zt : VReg) (pg : GovPred) (rn : XReg) (imm : ReqInt) : Placement :=
  ⟨.st1Si,
   [(.msz, .const 0b11), (.size, .expr (sizecode size)), (.imm4, .expr (modField imm 16)),
    (.pg, .expr pg.idx.toNat), (.rn, .expr rn.toNat), (.zt, .expr zt.toNat)]⟩

/-- R340 `st1d_si`: ST1D (contiguous store of doublewords from elements of size `size`, scalar base plus immediate (in vector lengths)). -/
def execSt1dSi (size : ReqInt) (zt : VReg) (pg : GovPred) (rn : XReg) (imm : ReqInt) (s : State) : Result :=
  perform .st1dSi
    [requireSize [64] size,
     requireLowPredicate pg,
     requireStyle [Style.plain] pg,
     requireInterval (-8) 7 imm]
    (placeSt1dSi size zt pg rn imm) s

end Sys2Proof.Machine
end

