-- ==== Sys2Proof/Machine/FloatIndexStack.lean ====
section
/-! DEFINITION. The meanings of the operations of spec/49_fp_index_stack_misc.md (R468 to R507), one definition each:
the `require` lines in the order the rule writes them, and the word its packer builds from what the table gives its fields (R178). -/

namespace Sys2Proof.Machine

/-- R468, what the default table gives `fadd_unpred`: format `FP_ARITH_UNPRED` (R149) and its fields. -/
def placeFaddUnpred (size : ReqInt) (zd zn zm : VReg) : Placement :=
  ⟨.fpArithUnpred,
   [(.size, .expr (sizecode size)), (.zm, .expr zm.toNat), (.opc, .const 0b000), (.zn, .expr zn.toNat),
    (.zd, .expr zd.toNat)]⟩

/-- R468 `fadd_unpred`: FADD (floating-point add, unpredicated). -/
def execFaddUnpred (size : ReqInt) (zd zn zm : VReg) (s : State) : Result :=
  perform .faddUnpred [requireSize [16, 32, 64] size]
    (placeFaddUnpred size zd zn zm) s

/-- R469, what the default table gives `fsub_unpred`: format `FP_ARITH_UNPRED` (R149) and its fields. -/
def placeFsubUnpred (size : ReqInt) (zd zn zm : VReg) : Placement :=
  ⟨.fpArithUnpred,
   [(.size, .expr (sizecode size)), (.zm, .expr zm.toNat), (.opc, .const 0b001), (.zn, .expr zn.toNat),
    (.zd, .expr zd.toNat)]⟩

/-- R469 `fsub_unpred`: FSUB (floating-point subtract, unpredicated). -/
def execFsubUnpred (size : ReqInt) (zd zn zm : VReg) (s : State) : Result :=
  perform .fsubUnpred [requireSize [16, 32, 64] size]
    (placeFsubUnpred size zd zn zm) s

/-- R470, what the default table gives `fmul_unpred`: format `FP_ARITH_UNPRED` (R149) and its fields. -/
def placeFmulUnpred (size : ReqInt) (zd zn zm : VReg) : Placement :=
  ⟨.fpArithUnpred,
   [(.size, .expr (sizecode size)), (.zm, .expr zm.toNat), (.opc, .const 0b010), (.zn, .expr zn.toNat),
    (.zd, .expr zd.toNat)]⟩

/-- R470 `fmul_unpred`: FMUL (floating-point multiply, unpredicated). -/
def execFmulUnpred (size : ReqInt) (zd zn zm : VReg) (s : State) : Result :=
  perform .fmulUnpred [requireSize [16, 32, 64] size]
    (placeFmulUnpred size zd zn zm) s

/-- R471, what the default table gives `ftsmul_unpred`: format `FP_ARITH_UNPRED` (R149) and its fields. -/
def placeFtsmulUnpred (size : ReqInt) (zd zn zm : VReg) : Placement :=
  ⟨.fpArithUnpred,
   [(.size, .expr (sizecode size)), (.zm, .expr zm.toNat), (.opc, .const 0b011), (.zn, .expr zn.toNat),
    (.zd, .expr zd.toNat)]⟩

/-- R471 `ftsmul_unpred`: FTSMUL (floating-point trigonometric starting value, unpredicated). -/
def execFtsmulUnpred (size : ReqInt) (zd zn zm : VReg) (s : State) : Result :=
  perform .ftsmulUnpred [requireSize [16, 32, 64] size]
    (placeFtsmulUnpred size zd zn zm) s

/-- R472, what the default table gives `frecps_unpred`: format `FP_ARITH_UNPRED` (R149) and its fields. -/
def placeFrecpsUnpred (size : ReqInt) (zd zn zm : VReg) : Placement :=
  ⟨.fpArithUnpred,
   [(.size, .expr (sizecode size)), (.zm, .expr zm.toNat), (.opc, .const 0b110), (.zn, .expr zn.toNat),
    (.zd, .expr zd.toNat)]⟩

/-- R472 `frecps_unpred`: FRECPS (floating-point reciprocal step, unpredicated). -/
def execFrecpsUnpred (size : ReqInt) (zd zn zm : VReg) (s : State) : Result :=
  perform .frecpsUnpred [requireSize [16, 32, 64] size]
    (placeFrecpsUnpred size zd zn zm) s

/-- R473, what the default table gives `frsqrts_unpred`: format `FP_ARITH_UNPRED` (R149) and its fields. -/
def placeFrsqrtsUnpred (size : ReqInt) (zd zn zm : VReg) : Placement :=
  ⟨.fpArithUnpred,
   [(.size, .expr (sizecode size)), (.zm, .expr zm.toNat), (.opc, .const 0b111), (.zn, .expr zn.toNat),
    (.zd, .expr zd.toNat)]⟩

/-- R473 `frsqrts_unpred`: FRSQRTS (floating-point reciprocal square root step, unpredicated). -/
def execFrsqrtsUnpred (size : ReqInt) (zd zn zm : VReg) (s : State) : Result :=
  perform .frsqrtsUnpred [requireSize [16, 32, 64] size]
    (placeFrsqrtsUnpred size zd zn zm) s

/-- R474, what the default table gives `fadd_pred`: format `FP_ARITH_PRED` (R150) and its fields. -/
def placeFaddPred (size : ReqInt) (zd : VReg) (pg : GovPred) (zm : VReg) : Placement :=
  ⟨.fpArithPred,
   [(.size, .expr (sizecode size)), (.opc, .const 0b0000), (.pg, .expr pg.idx.toNat),
    (.zm, .expr zm.toNat), (.zdn, .expr zd.toNat)]⟩

/-- R474 `fadd_pred`: FADD (floating-point add, predicated). -/
def execFaddPred (size : ReqInt) (zd : VReg) (pg : GovPred) (zn zm : VReg) (s : State) : Result :=
  perform .faddPred
    [requireSize [16, 32, 64] size,
     requireLowPredicate pg,
     requireStyle [Style.merging] pg,
     requireSame zd zn]
    (placeFaddPred size zd pg zm) s

/-- R475, what the default table gives `fsub_pred`: format `FP_ARITH_PRED` (R150) and its fields. -/
def placeFsubPred (size : ReqInt) (zd : VReg) (pg : GovPred) (zm : VReg) : Placement :=
  ⟨.fpArithPred,
   [(.size, .expr (sizecode size)), (.opc, .const 0b0001), (.pg, .expr pg.idx.toNat),
    (.zm, .expr zm.toNat), (.zdn, .expr zd.toNat)]⟩

/-- R475 `fsub_pred`: FSUB (floating-point subtract, predicated). -/
def execFsubPred (size : ReqInt) (zd : VReg) (pg : GovPred) (zn zm : VReg) (s : State) : Result :=
  perform .fsubPred
    [requireSize [16, 32, 64] size,
     requireLowPredicate pg,
     requireStyle [Style.merging] pg,
     requireSame zd zn]
    (placeFsubPred size zd pg zm) s

/-- R476, what the default table gives `fmul_pred`: format `FP_ARITH_PRED` (R150) and its fields. -/
def placeFmulPred (size : ReqInt) (zd : VReg) (pg : GovPred) (zm : VReg) : Placement :=
  ⟨.fpArithPred,
   [(.size, .expr (sizecode size)), (.opc, .const 0b0010), (.pg, .expr pg.idx.toNat),
    (.zm, .expr zm.toNat), (.zdn, .expr zd.toNat)]⟩

/-- R476 `fmul_pred`: FMUL (floating-point multiply, predicated). -/
def execFmulPred (size : ReqInt) (zd : VReg) (pg : GovPred) (zn zm : VReg) (s : State) : Result :=
  perform .fmulPred
    [requireSize [16, 32, 64] size,
     requireLowPredicate pg,
     requireStyle [Style.merging] pg,
     requireSame zd zn]
    (placeFmulPred size zd pg zm) s

/-- R477, what the default table gives `fsubr_pred`: format `FP_ARITH_PRED` (R150) and its fields. -/
def placeFsubrPred (size : ReqInt) (zd : VReg) (pg : GovPred) (zm : VReg) : Placement :=
  ⟨.fpArithPred,
   [(.size, .expr (sizecode size)), (.opc, .const 0b0011), (.pg, .expr pg.idx.toNat),
    (.zm, .expr zm.toNat), (.zdn, .expr zd.toNat)]⟩

/-- R477 `fsubr_pred`: FSUBR (floating-point reversed subtract, predicated). -/
def execFsubrPred (size : ReqInt) (zd : VReg) (pg : GovPred) (zn zm : VReg) (s : State) : Result :=
  perform .fsubrPred
    [requireSize [16, 32, 64] size,
     requireLowPredicate pg,
     requireStyle [Style.merging] pg,
     requireSame zd zn]
    (placeFsubrPred size zd pg zm) s

/-- R478, what the default table gives `fmaxnm_pred`: format `FP_ARITH_PRED` (R150) and its fields. -/
def placeFmaxnmPred (size : ReqInt) (zd : VReg) (pg : GovPred) (zm : VReg) : Placement :=
  ⟨.fpArithPred,
   [(.size, .expr (sizecode size)), (.opc, .const 0b0100), (.pg, .expr pg.idx.toNat),
    (.zm, .expr zm.toNat), (.zdn, .expr zd.toNat)]⟩

/-- R478 `fmaxnm_pred`: FMAXNM (floating-point maximum number, predicated). -/
def execFmaxnmPred (size : ReqInt) (zd : VReg) (pg : GovPred) (zn zm : VReg) (s : State) : Result :=
  perform .fmaxnmPred
    [requireSize [16, 32, 64] size,
     requireLowPredicate pg,
     requireStyle [Style.merging] pg,
     requireSame zd zn]
    (placeFmaxnmPred size zd pg zm) s

/-- R479, what the default table gives `fminnm_pred`: format `FP_ARITH_PRED` (R150) and its fields. -/
def placeFminnmPred (size : ReqInt) (zd : VReg) (pg : GovPred) (zm : VReg) : Placement :=
  ⟨.fpArithPred,
   [(.size, .expr (sizecode size)), (.opc, .const 0b0101), (.pg, .expr pg.idx.toNat),
    (.zm, .expr zm.toNat), (.zdn, .expr zd.toNat)]⟩

/-- R479 `fminnm_pred`: FMINNM (floating-point minimum number, predicated). -/
def execFminnmPred (size : ReqInt) (zd : VReg) (pg : GovPred) (zn zm : VReg) (s : State) : Result :=
  perform .fminnmPred
    [requireSize [16, 32, 64] size,
     requireLowPredicate pg,
     requireStyle [Style.merging] pg,
     requireSame zd zn]
    (placeFminnmPred size zd pg zm) s

/-- R480, what the default table gives `fmax_pred`: format `FP_ARITH_PRED` (R150) and its fields. -/
def placeFmaxPred (size : ReqInt) (zd : VReg) (pg : GovPred) (zm : VReg) : Placement :=
  ⟨.fpArithPred,
   [(.size, .expr (sizecode size)), (.opc, .const 0b0110), (.pg, .expr pg.idx.toNat),
    (.zm, .expr zm.toNat), (.zdn, .expr zd.toNat)]⟩

/-- R480 `fmax_pred`: FMAX (floating-point maximum, predicated). -/
def execFmaxPred (size : ReqInt) (zd : VReg) (pg : GovPred) (zn zm : VReg) (s : State) : Result :=
  perform .fmaxPred
    [requireSize [16, 32, 64] size,
     requireLowPredicate pg,
     requireStyle [Style.merging] pg,
     requireSame zd zn]
    (placeFmaxPred size zd pg zm) s

/-- R481, what the default table gives `fmin_pred`: format `FP_ARITH_PRED` (R150) and its fields. -/
def placeFminPred (size : ReqInt) (zd : VReg) (pg : GovPred) (zm : VReg) : Placement :=
  ⟨.fpArithPred,
   [(.size, .expr (sizecode size)), (.opc, .const 0b0111), (.pg, .expr pg.idx.toNat),
    (.zm, .expr zm.toNat), (.zdn, .expr zd.toNat)]⟩

/-- R481 `fmin_pred`: FMIN (floating-point minimum, predicated). -/
def execFminPred (size : ReqInt) (zd : VReg) (pg : GovPred) (zn zm : VReg) (s : State) : Result :=
  perform .fminPred
    [requireSize [16, 32, 64] size,
     requireLowPredicate pg,
     requireStyle [Style.merging] pg,
     requireSame zd zn]
    (placeFminPred size zd pg zm) s

/-- R482, what the default table gives `fabd_pred`: format `FP_ARITH_PRED` (R150) and its fields. -/
def placeFabdPred (size : ReqInt) (zd : VReg) (pg : GovPred) (zm : VReg) : Placement :=
  ⟨.fpArithPred,
   [(.size, .expr (sizecode size)), (.opc, .const 0b1000), (.pg, .expr pg.idx.toNat),
    (.zm, .expr zm.toNat), (.zdn, .expr zd.toNat)]⟩

/-- R482 `fabd_pred`: FABD (floating-point absolute difference, predicated). -/
def execFabdPred (size : ReqInt) (zd : VReg) (pg : GovPred) (zn zm : VReg) (s : State) : Result :=
  perform .fabdPred
    [requireSize [16, 32, 64] size,
     requireLowPredicate pg,
     requireStyle [Style.merging] pg,
     requireSame zd zn]
    (placeFabdPred size zd pg zm) s

/-- R483, what the default table gives `fscale_pred`: format `FP_ARITH_PRED` (R150) and its fields. -/
def placeFscalePred (size : ReqInt) (zd : VReg) (pg : GovPred) (zm : VReg) : Placement :=
  ⟨.fpArithPred,
   [(.size, .expr (sizecode size)), (.opc, .const 0b1001), (.pg, .expr pg.idx.toNat),
    (.zm, .expr zm.toNat), (.zdn, .expr zd.toNat)]⟩

/-- R483 `fscale_pred`: FSCALE (floating-point adjust exponent, predicated). -/
def execFscalePred (size : ReqInt) (zd : VReg) (pg : GovPred) (zn zm : VReg) (s : State) : Result :=
  perform .fscalePred
    [requireSize [16, 32, 64] size,
     requireLowPredicate pg,
     requireStyle [Style.merging] pg,
     requireSame zd zn]
    (placeFscalePred size zd pg zm) s

/-- R484, what the default table gives `fmulx_pred`: format `FP_ARITH_PRED` (R150) and its fields. -/
def placeFmulxPred (size : ReqInt) (zd : VReg) (pg : GovPred) (zm : VReg) : Placement :=
  ⟨.fpArithPred,
   [(.size, .expr (sizecode size)), (.opc, .const 0b1010), (.pg, .expr pg.idx.toNat),
    (.zm, .expr zm.toNat), (.zdn, .expr zd.toNat)]⟩

/-- R484 `fmulx_pred`: FMULX (floating-point multiply extended, predicated). -/
def execFmulxPred (size : ReqInt) (zd : VReg) (pg : GovPred) (zn zm : VReg) (s : State) : Result :=
  perform .fmulxPred
    [requireSize [16, 32, 64] size,
     requireLowPredicate pg,
     requireStyle [Style.merging] pg,
     requireSame zd zn]
    (placeFmulxPred size zd pg zm) s

/-- R485, what the default table gives `fdivr_pred`: format `FP_ARITH_PRED` (R150) and its fields. -/
def placeFdivrPred (size : ReqInt) (zd : VReg) (pg : GovPred) (zm : VReg) : Placement :=
  ⟨.fpArithPred,
   [(.size, .expr (sizecode size)), (.opc, .const 0b1100), (.pg, .expr pg.idx.toNat),
    (.zm, .expr zm.toNat), (.zdn, .expr zd.toNat)]⟩

/-- R485 `fdivr_pred`: FDIVR (floating-point reversed divide, predicated). -/
def execFdivrPred (size : ReqInt) (zd : VReg) (pg : GovPred) (zn zm : VReg) (s : State) : Result :=
  perform .fdivrPred
    [requireSize [16, 32, 64] size,
     requireLowPredicate pg,
     requireStyle [Style.merging] pg,
     requireSame zd zn]
    (placeFdivrPred size zd pg zm) s

/-- R486, what the default table gives `fdiv_pred`: format `FP_ARITH_PRED` (R150) and its fields. -/
def placeFdivPred (size : ReqInt) (zd : VReg) (pg : GovPred) (zm : VReg) : Placement :=
  ⟨.fpArithPred,
   [(.size, .expr (sizecode size)), (.opc, .const 0b1101), (.pg, .expr pg.idx.toNat),
    (.zm, .expr zm.toNat), (.zdn, .expr zd.toNat)]⟩

/-- R486 `fdiv_pred`: FDIV (floating-point divide, predicated). -/
def execFdivPred (size : ReqInt) (zd : VReg) (pg : GovPred) (zn zm : VReg) (s : State) : Result :=
  perform .fdivPred
    [requireSize [16, 32, 64] size,
     requireLowPredicate pg,
     requireStyle [Style.merging] pg,
     requireSame zd zn]
    (placeFdivPred size zd pg zm) s

/-- R487, what the default table gives `fcmge_vec`: format `FP_CMP_VEC` (R151) and its fields. -/
def placeFcmgeVec (size : ReqInt) (pd : PReg) (pg : GovPred) (zn zm : VReg) : Placement :=
  ⟨.fpCmpVec,
   [(.size, .expr (sizecode size)), (.zm, .expr zm.toNat), (.op, .const 0b0), (.o2, .const 0b0),
    (.pg, .expr pg.idx.toNat), (.zn, .expr zn.toNat), (.o3, .const 0b0), (.pd, .expr pd.toNat)]⟩

/-- R487 `fcmge_vec`: FCMGE (floating-point compare vectors greater than or equal). -/
def execFcmgeVec (size : ReqInt) (pd : PReg) (pg : GovPred) (zn zm : VReg) (s : State) : Result :=
  perform .fcmgeVec
    [requireSize [16, 32, 64] size, requireLowPredicate pg, requireStyle [Style.zeroing] pg]
    (placeFcmgeVec size pd pg zn zm) s

/-- R488, what the default table gives `fcmgt_vec`: format `FP_CMP_VEC` (R151) and its fields. -/
def placeFcmgtVec (size : ReqInt) (pd : PReg) (pg : GovPred) (zn zm : VReg) : Placement :=
  ⟨.fpCmpVec,
   [(.size, .expr (sizecode size)), (.zm, .expr zm.toNat), (.op, .const 0b0), (.o2, .const 0b0),
    (.pg, .expr pg.idx.toNat), (.zn, .expr zn.toNat), (.o3, .const 0b1), (.pd, .expr pd.toNat)]⟩

/-- R488 `fcmgt_vec`: FCMGT (floating-point compare vectors greater than). -/
def execFcmgtVec (size : ReqInt) (pd : PReg) (pg : GovPred) (zn zm : VReg) (s : State) : Result :=
  perform .fcmgtVec
    [requireSize [16, 32, 64] size, requireLowPredicate pg, requireStyle [Style.zeroing] pg]
    (placeFcmgtVec size pd pg zn zm) s

/-- R489, what the default table gives `fcmeq_vec`: format `FP_CMP_VEC` (R151) and its fields. -/
def placeFcmeqVec (size : ReqInt) (pd : PReg) (pg : GovPred) (zn zm : VReg) : Placement :=
  ⟨.fpCmpVec,
   [(.size, .expr (sizecode size)), (.zm, .expr zm.toNat), (.op, .const 0b0), (.o2, .const 0b1),
    (.pg, .expr pg.idx.toNat), (.zn, .expr zn.toNat), (.o3, .const 0b0), (.pd, .expr pd.toNat)]⟩

/-- R489 `fcmeq_vec`: FCMEQ (floating-point compare vectors equal). -/
def execFcmeqVec (size : ReqInt) (pd : PReg) (pg : GovPred) (zn zm : VReg) (s : State) : Result :=
  perform .fcmeqVec
    [requireSize [16, 32, 64] size, requireLowPredicate pg, requireStyle [Style.zeroing] pg]
    (placeFcmeqVec size pd pg zn zm) s

/-- R490, what the default table gives `fcmne_vec`: format `FP_CMP_VEC` (R151) and its fields. -/
def placeFcmneVec (size : ReqInt) (pd : PReg) (pg : GovPred) (zn zm : VReg) : Placement :=
  ⟨.fpCmpVec,
   [(.size, .expr (sizecode size)), (.zm, .expr zm.toNat), (.op, .const 0b0), (.o2, .const 0b1),
    (.pg, .expr pg.idx.toNat), (.zn, .expr zn.toNat), (.o3, .const 0b1), (.pd, .expr pd.toNat)]⟩

/-- R490 `fcmne_vec`: FCMNE (floating-point compare vectors not equal). -/
def execFcmneVec (size : ReqInt) (pd : PReg) (pg : GovPred) (zn zm : VReg) (s : State) : Result :=
  perform .fcmneVec
    [requireSize [16, 32, 64] size, requireLowPredicate pg, requireStyle [Style.zeroing] pg]
    (placeFcmneVec size pd pg zn zm) s

/-- R491, what the default table gives `fcmuo_vec`: format `FP_CMP_VEC` (R151) and its fields. -/
def placeFcmuoVec (size : ReqInt) (pd : PReg) (pg : GovPred) (zn zm : VReg) : Placement :=
  ⟨.fpCmpVec,
   [(.size, .expr (sizecode size)), (.zm, .expr zm.toNat), (.op, .const 0b1), (.o2, .const 0b0),
    (.pg, .expr pg.idx.toNat), (.zn, .expr zn.toNat), (.o3, .const 0b0), (.pd, .expr pd.toNat)]⟩

/-- R491 `fcmuo_vec`: FCMUO (floating-point compare vectors unordered). -/
def execFcmuoVec (size : ReqInt) (pd : PReg) (pg : GovPred) (zn zm : VReg) (s : State) : Result :=
  perform .fcmuoVec
    [requireSize [16, 32, 64] size, requireLowPredicate pg, requireStyle [Style.zeroing] pg]
    (placeFcmuoVec size pd pg zn zm) s

/-- R492, what the default table gives `facge_vec`: format `FP_CMP_VEC` (R151) and its fields. -/
def placeFacgeVec (size : ReqInt) (pd : PReg) (pg : GovPred) (zn zm : VReg) : Placement :=
  ⟨.fpCmpVec,
   [(.size, .expr (sizecode size)), (.zm, .expr zm.toNat), (.op, .const 0b1), (.o2, .const 0b0),
    (.pg, .expr pg.idx.toNat), (.zn, .expr zn.toNat), (.o3, .const 0b1), (.pd, .expr pd.toNat)]⟩

/-- R492 `facge_vec`: FACGE (floating-point compare vectors absolute greater than or equal). -/
def execFacgeVec (size : ReqInt) (pd : PReg) (pg : GovPred) (zn zm : VReg) (s : State) : Result :=
  perform .facgeVec
    [requireSize [16, 32, 64] size, requireLowPredicate pg, requireStyle [Style.zeroing] pg]
    (placeFacgeVec size pd pg zn zm) s

/-- R493, what the default table gives `facgt_vec`: format `FP_CMP_VEC` (R151) and its fields. -/
def placeFacgtVec (size : ReqInt) (pd : PReg) (pg : GovPred) (zn zm : VReg) : Placement :=
  ⟨.fpCmpVec,
   [(.size, .expr (sizecode size)), (.zm, .expr zm.toNat), (.op, .const 0b1), (.o2, .const 0b1),
    (.pg, .expr pg.idx.toNat), (.zn, .expr zn.toNat), (.o3, .const 0b1), (.pd, .expr pd.toNat)]⟩

/-- R493 `facgt_vec`: FACGT (floating-point compare vectors absolute greater than). -/
def execFacgtVec (size : ReqInt) (pd : PReg) (pg : GovPred) (zn zm : VReg) (s : State) : Result :=
  perform .facgtVec
    [requireSize [16, 32, 64] size, requireLowPredicate pg, requireStyle [Style.zeroing] pg]
    (placeFacgtVec size pd pg zn zm) s

/-- R494, what the default table gives `fcvt`: format `FP_CVT` (R152) and its fields. -/
def placeFcvt (dsize ssize : ReqInt) (zd : VReg) (pg : GovPred) (zn : VReg) : Placement :=
  ⟨.fpCvt,
   [(.opc, .expr ((fcvtTable dsize ssize).1)), (.opc2, .expr ((fcvtTable dsize ssize).2)),
    (.pg, .expr pg.idx.toNat), (.zn, .expr zn.toNat), (.zd, .expr zd.toNat)]⟩

/-- R494 `fcvt`: FCVT (floating-point convert precision, predicated). -/
def execFcvt (dsize ssize : ReqInt) (zd : VReg) (pg : GovPred) (zn : VReg) (s : State) : Result :=
  perform .fcvt
    [requireSize [16, 32, 64] dsize,
     requireSize [16, 32, 64] ssize,
     requireLowPredicate pg,
     requireStyle [Style.merging] pg,
     requireDistinctSizes dsize ssize]
    (placeFcvt dsize ssize zd pg zn) s

/-- R495, what the default table gives `fcadd`: format `FP_COMPLEX_ADD` (R153) and its fields. -/
def placeFcadd (size : ReqInt) (zd : VReg) (pg : GovPred) (zm : VReg) (rot : ReqInt) : Placement :=
  ⟨.fpComplexAdd,
   [(.size, .expr (sizecode size)), (.rot, .expr (oddRotation rot)), (.pg, .expr pg.idx.toNat),
    (.zm, .expr zm.toNat), (.zdn, .expr zd.toNat)]⟩

/-- R495 `fcadd`: FCADD (floating-point complex add with rotate, predicated). -/
def execFcadd (size : ReqInt) (zd : VReg) (pg : GovPred) (zn zm : VReg) (rot : ReqInt) (s : State) : Result :=
  perform .fcadd
    [requireSize [16, 32, 64] size,
     requireLowPredicate pg,
     requireStyle [Style.merging] pg,
     requireRotation [90, 270] rot,
     requireSame zd zn]
    (placeFcadd size zd pg zm rot) s

/-- R496, what the default table gives `fcmla`: format `FP_COMPLEX_MLA` (R154) and its fields. -/
def placeFcmla (size : ReqInt) (zda : VReg) (pg : GovPred) (zn zm : VReg) (rot : ReqInt) : Placement :=
  ⟨.fpComplexMla,
   [(.size, .expr (sizecode size)), (.zm, .expr zm.toNat), (.rot, .expr (rot.toNat / 90)),
    (.pg, .expr pg.idx.toNat), (.zn, .expr zn.toNat), (.zda, .expr zda.toNat)]⟩

/-- R496 `fcmla`: FCMLA (floating-point complex multiply-add with rotate, predicated). -/
def execFcmla (size : ReqInt) (zda : VReg) (pg : GovPred) (zn zm : VReg) (rot : ReqInt) (s : State) : Result :=
  perform .fcmla
    [requireSize [16, 32, 64] size,
     requireLowPredicate pg,
     requireStyle [Style.merging] pg,
     requireRotation [0, 90, 180, 270] rot]
    (placeFcmla size zda pg zn zm rot) s

/-- R497, what the default table gives `index_ii`: format `INDEX_GEN` (R155) and its fields. -/
def placeIndexIi (size : ReqInt) (zd : VReg) (start step : ReqInt) : Placement :=
  ⟨.indexGen,
   [(.size, .expr (sizecode size)), (.hi5, .expr (modField step 32)), (.form, .const 0b00),
    (.lo5, .expr (modField start 32)), (.zd, .expr zd.toNat)]⟩

/-- R497 `index_ii`: INDEX (create index vector from immediate start and immediate step). -/
def execIndexIi (size : ReqInt) (zd : VReg) (start step : ReqInt) (s : State) : Result :=
  perform .indexIi
    [requireSize [8, 16, 32, 64] size,
     requireInterval (-16) 15 start,
     requireInterval (-16) 15 step]
    (placeIndexIi size zd start step) s

/-- R498, what the default table gives `index_ri`: format `INDEX_GEN` (R155) and its fields. -/
def placeIndexRi (size : ReqInt) (zd : VReg) (rn : XReg) (step : ReqInt) : Placement :=
  ⟨.indexGen,
   [(.size, .expr (sizecode size)), (.hi5, .expr (modField step 32)), (.form, .const 0b01),
    (.lo5, .expr rn.toNat), (.zd, .expr zd.toNat)]⟩

/-- R498 `index_ri`: INDEX (create index vector from scalar start and immediate step). -/
def execIndexRi (size : ReqInt) (zd : VReg) (rn : XReg) (step : ReqInt) (s : State) : Result :=
  perform .indexRi [requireSize [8, 16, 32, 64] size, requireInterval (-16) 15 step]
    (placeIndexRi size zd rn step) s

/-- R499, what the default table gives `index_ir`: format `INDEX_GEN` (R155) and its fields. -/
def placeIndexIr (size : ReqInt) (zd : VReg) (start : ReqInt) (rm : XReg) : Placement :=
  ⟨.indexGen,
   [(.size, .expr (sizecode size)), (.hi5, .expr rm.toNat), (.form, .const 0b10),
    (.lo5, .expr (modField start 32)), (.zd, .expr zd.toNat)]⟩

/-- R499 `index_ir`: INDEX (create index vector from immediate start and scalar step). -/
def execIndexIr (size : ReqInt) (zd : VReg) (start : ReqInt) (rm : XReg) (s : State) : Result :=
  perform .indexIr [requireSize [8, 16, 32, 64] size, requireInterval (-16) 15 start]
    (placeIndexIr size zd start rm) s

/-- R500, what the default table gives `index_rr`: format `INDEX_GEN` (R155) and its fields. -/
def placeIndexRr (size : ReqInt) (zd : VReg) (rn rm : XReg) : Placement :=
  ⟨.indexGen,
   [(.size, .expr (sizecode size)), (.hi5, .expr rm.toNat), (.form, .const 0b11),
    (.lo5, .expr rn.toNat), (.zd, .expr zd.toNat)]⟩

/-- R500 `index_rr`: INDEX (create index vector from scalar start and scalar step). -/
def execIndexRr (size : ReqInt) (zd : VReg) (rn rm : XReg) (s : State) : Result :=
  perform .indexRr [requireSize [8, 16, 32, 64] size]
    (placeIndexRr size zd rn rm) s

/-- R501, what the default table gives `addvl`: format `STACK_FRAME` (R156) and its fields. -/
def placeAddvl (rd rn : XReg) (imm : ReqInt) : Placement :=
  ⟨.stackFrame,
   [(.op, .const 0b00), (.rn, .expr rn.toNat), (.imm6, .expr (modField imm 64)), (.rd, .expr rd.toNat)]⟩

/-- R501 `addvl`: ADDVL (add multiple of the vector register length in bytes to a scalar register). -/
def execAddvl (rd rn : XReg) (imm : ReqInt) (s : State) : Result :=
  perform .addvl [requireInterval (-32) 31 imm]
    (placeAddvl rd rn imm) s

/-- R502, what the default table gives `addpl`: format `STACK_FRAME` (R156) and its fields. -/
def placeAddpl (rd rn : XReg) (imm : ReqInt) : Placement :=
  ⟨.stackFrame,
   [(.op, .const 0b01), (.rn, .expr rn.toNat), (.imm6, .expr (modField imm 64)), (.rd, .expr rd.toNat)]⟩

/-- R502 `addpl`: ADDPL (add multiple of the predicate register length in bytes to a scalar register). -/
def execAddpl (rd rn : XReg) (imm : ReqInt) (s : State) : Result :=
  perform .addpl [requireInterval (-32) 31 imm]
    (placeAddpl rd rn imm) s

/-- R503, what the default table gives `rdvl`: format `STACK_FRAME` (R156) and its fields. -/
def placeRdvl (rd : XReg) (imm : ReqInt) : Placement :=
  ⟨.stackFrame,
   [(.op, .const 0b10), (.rn, .const 0b11111), (.imm6, .expr (modField imm 64)), (.rd, .expr rd.toNat)]⟩

/-- R503 `rdvl`: RDVL (read multiple of the vector register length in bytes to a scalar register). -/
def execRdvl (rd : XReg) (imm : ReqInt) (s : State) : Result :=
  perform .rdvl [requireInterval (-32) 31 imm]
    (placeRdvl rd imm) s

/-- R504, what the default table gives `ftssel`: format `MISC_UNPRED` (R157) and its fields. -/
def placeFtssel (size : ReqInt) (zd zn zm : VReg) : Placement :=
  ⟨.miscUnpred,
   [(.size, .expr (sizecode size)), (.zm, .expr zm.toNat), (.opc, .const 0b00), (.zn, .expr zn.toNat),
    (.zd, .expr zd.toNat)]⟩

/-- R504 `ftssel`: FTSSEL (floating-point trigonometric select coefficient). -/
def execFtssel (size : ReqInt) (zd zn zm : VReg) (s : State) : Result :=
  perform .ftssel [requireSize [16, 32, 64] size]
    (placeFtssel size zd zn zm) s

/-- R505, what the default table gives `fexpa`: format `MISC_UNPRED` (R157) and its fields. -/
def placeFexpa (size : ReqInt) (zd zn : VReg) : Placement :=
  ⟨.miscUnpred,
   [(.size, .expr (sizecode size)), (.zm, .const 0b00000), (.opc, .const 0b10), (.zn, .expr zn.toNat),
    (.zd, .expr zd.toNat)]⟩

/-- R505 `fexpa`: FEXPA (floating-point exponential accelerator). -/
def execFexpa (size : ReqInt) (zd zn : VReg) (s : State) : Result :=
  perform .fexpa [requireSize [16, 32, 64] size]
    (placeFexpa size zd zn) s

/-- R506, what the default table gives `movprfx_unpred`: format `MISC_UNPRED` (R157) and its fields. -/
def placeMovprfxUnpred (zd zn : VReg) : Placement :=
  ⟨.miscUnpred,
   [(.size, .const 0b00), (.zm, .const 0b00000), (.opc, .const 0b11), (.zn, .expr zn.toNat),
    (.zd, .expr zd.toNat)]⟩

/-- R506 `movprfx_unpred`: MOVPRFX (move prefix, unpredicated). -/
def execMovprfxUnpred (zd zn : VReg) (s : State) : Result :=
  perform .movprfxUnpred []
    (placeMovprfxUnpred zd zn) s

/-- R507, what the default table gives `movprfx_pred`: format `MOVPRFX_PRED` (R158) and its fields. -/
def placeMovprfxPred (size : ReqInt) (zd : VReg) (pg : GovPred) (zn : VReg) : Placement :=
  ⟨.movprfxPred,
   [(.size, .expr (sizecode size)), (.m, .expr (mergeBit pg)), (.pg, .expr pg.idx.toNat),
    (.zn, .expr zn.toNat), (.zd, .expr zd.toNat)]⟩

/-- R507 `movprfx_pred`: MOVPRFX (move prefix, predicated). -/
def execMovprfxPred (size : ReqInt) (zd : VReg) (pg : GovPred) (zn : VReg) (s : State) : Result :=
  perform .movprfxPred
    [requireSize [8, 16, 32, 64] size,
     requireLowPredicate pg,
     requireStyle [Style.merging, Style.zeroing] pg]
    (placeMovprfxPred size zd pg zn) s

end Sys2Proof.Machine
end

