-- ==== Sys2Proof/Machine/IntegerArith.lean ====
section
/-! DEFINITION. The meanings of the operations of spec/41_int_arith_logical.md (R202 to R227), one definition each:
the `require` lines in the order the rule writes them, and the word its packer builds from what the table gives its fields (R178). -/

namespace Sys2Proof.Machine

/-- R202, what the default table gives `add_unpred`: format `ADDSUB_UNPRED` (R100) and its fields. -/
def placeAddUnpred (size : ReqInt) (zd zn zm : VReg) : Placement :=
  ⟨.addsubUnpred,
   [(.size, .expr (sizecode size)), (.zm, .expr zm.toNat), (.opc, .const 0b000), (.zn, .expr zn.toNat),
    (.zd, .expr zd.toNat)]⟩

/-- R202 `add_unpred`: ADD (add vectors, unpredicated). -/
def execAddUnpred (size : ReqInt) (zd zn zm : VReg) (s : State) : Result :=
  perform .addUnpred [requireSize [8, 16, 32, 64] size]
    (placeAddUnpred size zd zn zm) s

/-- R203, what the default table gives `sub_unpred`: format `ADDSUB_UNPRED` (R100) and its fields. -/
def placeSubUnpred (size : ReqInt) (zd zn zm : VReg) : Placement :=
  ⟨.addsubUnpred,
   [(.size, .expr (sizecode size)), (.zm, .expr zm.toNat), (.opc, .const 0b001), (.zn, .expr zn.toNat),
    (.zd, .expr zd.toNat)]⟩

/-- R203 `sub_unpred`: SUB (subtract vectors, unpredicated). -/
def execSubUnpred (size : ReqInt) (zd zn zm : VReg) (s : State) : Result :=
  perform .subUnpred [requireSize [8, 16, 32, 64] size]
    (placeSubUnpred size zd zn zm) s

/-- R204, what the default table gives `sqadd_unpred`: format `ADDSUB_UNPRED` (R100) and its fields. -/
def placeSqaddUnpred (size : ReqInt) (zd zn zm : VReg) : Placement :=
  ⟨.addsubUnpred,
   [(.size, .expr (sizecode size)), (.zm, .expr zm.toNat), (.opc, .const 0b100), (.zn, .expr zn.toNat),
    (.zd, .expr zd.toNat)]⟩

/-- R204 `sqadd_unpred`: SQADD (signed saturating add vectors, unpredicated). -/
def execSqaddUnpred (size : ReqInt) (zd zn zm : VReg) (s : State) : Result :=
  perform .sqaddUnpred [requireSize [8, 16, 32, 64] size]
    (placeSqaddUnpred size zd zn zm) s

/-- R205, what the default table gives `uqadd_unpred`: format `ADDSUB_UNPRED` (R100) and its fields. -/
def placeUqaddUnpred (size : ReqInt) (zd zn zm : VReg) : Placement :=
  ⟨.addsubUnpred,
   [(.size, .expr (sizecode size)), (.zm, .expr zm.toNat), (.opc, .const 0b101), (.zn, .expr zn.toNat),
    (.zd, .expr zd.toNat)]⟩

/-- R205 `uqadd_unpred`: UQADD (unsigned saturating add vectors, unpredicated). -/
def execUqaddUnpred (size : ReqInt) (zd zn zm : VReg) (s : State) : Result :=
  perform .uqaddUnpred [requireSize [8, 16, 32, 64] size]
    (placeUqaddUnpred size zd zn zm) s

/-- R206, what the default table gives `sqsub_unpred`: format `ADDSUB_UNPRED` (R100) and its fields. -/
def placeSqsubUnpred (size : ReqInt) (zd zn zm : VReg) : Placement :=
  ⟨.addsubUnpred,
   [(.size, .expr (sizecode size)), (.zm, .expr zm.toNat), (.opc, .const 0b110), (.zn, .expr zn.toNat),
    (.zd, .expr zd.toNat)]⟩

/-- R206 `sqsub_unpred`: SQSUB (signed saturating subtract vectors, unpredicated). -/
def execSqsubUnpred (size : ReqInt) (zd zn zm : VReg) (s : State) : Result :=
  perform .sqsubUnpred [requireSize [8, 16, 32, 64] size]
    (placeSqsubUnpred size zd zn zm) s

/-- R207, what the default table gives `uqsub_unpred`: format `ADDSUB_UNPRED` (R100) and its fields. -/
def placeUqsubUnpred (size : ReqInt) (zd zn zm : VReg) : Placement :=
  ⟨.addsubUnpred,
   [(.size, .expr (sizecode size)), (.zm, .expr zm.toNat), (.opc, .const 0b111), (.zn, .expr zn.toNat),
    (.zd, .expr zd.toNat)]⟩

/-- R207 `uqsub_unpred`: UQSUB (unsigned saturating subtract vectors, unpredicated). -/
def execUqsubUnpred (size : ReqInt) (zd zn zm : VReg) (s : State) : Result :=
  perform .uqsubUnpred [requireSize [8, 16, 32, 64] size]
    (placeUqsubUnpred size zd zn zm) s

/-- R208, what the default table gives `add_pred`: format `ADDSUB_PRED` (R101) and its fields. -/
def placeAddPred (size : ReqInt) (zd : VReg) (pg : GovPred) (zm : VReg) : Placement :=
  ⟨.addsubPred,
   [(.size, .expr (sizecode size)), (.opc, .const 0b000), (.pg, .expr pg.idx.toNat),
    (.zm, .expr zm.toNat), (.zdn, .expr zd.toNat)]⟩

/-- R208 `add_pred`: ADD (add vectors, predicated). -/
def execAddPred (size : ReqInt) (zd : VReg) (pg : GovPred) (zn zm : VReg) (s : State) : Result :=
  perform .addPred
    [requireSize [8, 16, 32, 64] size,
     requireLowPredicate pg,
     requireStyle [Style.merging] pg,
     requireSame zd zn]
    (placeAddPred size zd pg zm) s

/-- R209, what the default table gives `sub_pred`: format `ADDSUB_PRED` (R101) and its fields. -/
def placeSubPred (size : ReqInt) (zd : VReg) (pg : GovPred) (zm : VReg) : Placement :=
  ⟨.addsubPred,
   [(.size, .expr (sizecode size)), (.opc, .const 0b001), (.pg, .expr pg.idx.toNat),
    (.zm, .expr zm.toNat), (.zdn, .expr zd.toNat)]⟩

/-- R209 `sub_pred`: SUB (subtract vectors, predicated). -/
def execSubPred (size : ReqInt) (zd : VReg) (pg : GovPred) (zn zm : VReg) (s : State) : Result :=
  perform .subPred
    [requireSize [8, 16, 32, 64] size,
     requireLowPredicate pg,
     requireStyle [Style.merging] pg,
     requireSame zd zn]
    (placeSubPred size zd pg zm) s

/-- R210, what the default table gives `subr_pred`: format `ADDSUB_PRED` (R101) and its fields. -/
def placeSubrPred (size : ReqInt) (zd : VReg) (pg : GovPred) (zm : VReg) : Placement :=
  ⟨.addsubPred,
   [(.size, .expr (sizecode size)), (.opc, .const 0b011), (.pg, .expr pg.idx.toNat),
    (.zm, .expr zm.toNat), (.zdn, .expr zd.toNat)]⟩

/-- R210 `subr_pred`: SUBR (reversed subtract vectors, predicated). -/
def execSubrPred (size : ReqInt) (zd : VReg) (pg : GovPred) (zn zm : VReg) (s : State) : Result :=
  perform .subrPred
    [requireSize [8, 16, 32, 64] size,
     requireLowPredicate pg,
     requireStyle [Style.merging] pg,
     requireSame zd zn]
    (placeSubrPred size zd pg zm) s

/-- R211, what the default table gives `smax_pred`: format `MINMAXDIFF_PRED` (R102) and its fields. -/
def placeSmaxPred (size : ReqInt) (zd : VReg) (pg : GovPred) (zm : VReg) : Placement :=
  ⟨.minmaxdiffPred,
   [(.size, .expr (sizecode size)), (.opc, .const 0b00), (.u, .const 0b0), (.pg, .expr pg.idx.toNat),
    (.zm, .expr zm.toNat), (.zdn, .expr zd.toNat)]⟩

/-- R211 `smax_pred`: SMAX (signed maximum vectors, predicated). -/
def execSmaxPred (size : ReqInt) (zd : VReg) (pg : GovPred) (zn zm : VReg) (s : State) : Result :=
  perform .smaxPred
    [requireSize [8, 16, 32, 64] size,
     requireLowPredicate pg,
     requireStyle [Style.merging] pg,
     requireSame zd zn]
    (placeSmaxPred size zd pg zm) s

/-- R212, what the default table gives `umax_pred`: format `MINMAXDIFF_PRED` (R102) and its fields. -/
def placeUmaxPred (size : ReqInt) (zd : VReg) (pg : GovPred) (zm : VReg) : Placement :=
  ⟨.minmaxdiffPred,
   [(.size, .expr (sizecode size)), (.opc, .const 0b00), (.u, .const 0b1), (.pg, .expr pg.idx.toNat),
    (.zm, .expr zm.toNat), (.zdn, .expr zd.toNat)]⟩

/-- R212 `umax_pred`: UMAX (unsigned maximum vectors, predicated). -/
def execUmaxPred (size : ReqInt) (zd : VReg) (pg : GovPred) (zn zm : VReg) (s : State) : Result :=
  perform .umaxPred
    [requireSize [8, 16, 32, 64] size,
     requireLowPredicate pg,
     requireStyle [Style.merging] pg,
     requireSame zd zn]
    (placeUmaxPred size zd pg zm) s

/-- R213, what the default table gives `smin_pred`: format `MINMAXDIFF_PRED` (R102) and its fields. -/
def placeSminPred (size : ReqInt) (zd : VReg) (pg : GovPred) (zm : VReg) : Placement :=
  ⟨.minmaxdiffPred,
   [(.size, .expr (sizecode size)), (.opc, .const 0b01), (.u, .const 0b0), (.pg, .expr pg.idx.toNat),
    (.zm, .expr zm.toNat), (.zdn, .expr zd.toNat)]⟩

/-- R213 `smin_pred`: SMIN (signed minimum vectors, predicated). -/
def execSminPred (size : ReqInt) (zd : VReg) (pg : GovPred) (zn zm : VReg) (s : State) : Result :=
  perform .sminPred
    [requireSize [8, 16, 32, 64] size,
     requireLowPredicate pg,
     requireStyle [Style.merging] pg,
     requireSame zd zn]
    (placeSminPred size zd pg zm) s

/-- R214, what the default table gives `umin_pred`: format `MINMAXDIFF_PRED` (R102) and its fields. -/
def placeUminPred (size : ReqInt) (zd : VReg) (pg : GovPred) (zm : VReg) : Placement :=
  ⟨.minmaxdiffPred,
   [(.size, .expr (sizecode size)), (.opc, .const 0b01), (.u, .const 0b1), (.pg, .expr pg.idx.toNat),
    (.zm, .expr zm.toNat), (.zdn, .expr zd.toNat)]⟩

/-- R214 `umin_pred`: UMIN (unsigned minimum vectors, predicated). -/
def execUminPred (size : ReqInt) (zd : VReg) (pg : GovPred) (zn zm : VReg) (s : State) : Result :=
  perform .uminPred
    [requireSize [8, 16, 32, 64] size,
     requireLowPredicate pg,
     requireStyle [Style.merging] pg,
     requireSame zd zn]
    (placeUminPred size zd pg zm) s

/-- R215, what the default table gives `sabd_pred`: format `MINMAXDIFF_PRED` (R102) and its fields. -/
def placeSabdPred (size : ReqInt) (zd : VReg) (pg : GovPred) (zm : VReg) : Placement :=
  ⟨.minmaxdiffPred,
   [(.size, .expr (sizecode size)), (.opc, .const 0b10), (.u, .const 0b0), (.pg, .expr pg.idx.toNat),
    (.zm, .expr zm.toNat), (.zdn, .expr zd.toNat)]⟩

/-- R215 `sabd_pred`: SABD (signed absolute difference vectors, predicated). -/
def execSabdPred (size : ReqInt) (zd : VReg) (pg : GovPred) (zn zm : VReg) (s : State) : Result :=
  perform .sabdPred
    [requireSize [8, 16, 32, 64] size,
     requireLowPredicate pg,
     requireStyle [Style.merging] pg,
     requireSame zd zn]
    (placeSabdPred size zd pg zm) s

/-- R216, what the default table gives `uabd_pred`: format `MINMAXDIFF_PRED` (R102) and its fields. -/
def placeUabdPred (size : ReqInt) (zd : VReg) (pg : GovPred) (zm : VReg) : Placement :=
  ⟨.minmaxdiffPred,
   [(.size, .expr (sizecode size)), (.opc, .const 0b10), (.u, .const 0b1), (.pg, .expr pg.idx.toNat),
    (.zm, .expr zm.toNat), (.zdn, .expr zd.toNat)]⟩

/-- R216 `uabd_pred`: UABD (unsigned absolute difference vectors, predicated). -/
def execUabdPred (size : ReqInt) (zd : VReg) (pg : GovPred) (zn zm : VReg) (s : State) : Result :=
  perform .uabdPred
    [requireSize [8, 16, 32, 64] size,
     requireLowPredicate pg,
     requireStyle [Style.merging] pg,
     requireSame zd zn]
    (placeUabdPred size zd pg zm) s

/-- R217, what the default table gives `orr_pred`: format `LOGICAL_PRED` (R103) and its fields. -/
def placeOrrPred (size : ReqInt) (zd : VReg) (pg : GovPred) (zm : VReg) : Placement :=
  ⟨.logicalPred,
   [(.size, .expr (sizecode size)), (.opc, .const 0b000), (.pg, .expr pg.idx.toNat),
    (.zm, .expr zm.toNat), (.zdn, .expr zd.toNat)]⟩

/-- R217 `orr_pred`: ORR (bitwise inclusive OR vectors, predicated). -/
def execOrrPred (size : ReqInt) (zd : VReg) (pg : GovPred) (zn zm : VReg) (s : State) : Result :=
  perform .orrPred
    [requireSize [8, 16, 32, 64] size,
     requireLowPredicate pg,
     requireStyle [Style.merging] pg,
     requireSame zd zn]
    (placeOrrPred size zd pg zm) s

/-- R218, what the default table gives `eor_pred`: format `LOGICAL_PRED` (R103) and its fields. -/
def placeEorPred (size : ReqInt) (zd : VReg) (pg : GovPred) (zm : VReg) : Placement :=
  ⟨.logicalPred,
   [(.size, .expr (sizecode size)), (.opc, .const 0b001), (.pg, .expr pg.idx.toNat),
    (.zm, .expr zm.toNat), (.zdn, .expr zd.toNat)]⟩

/-- R218 `eor_pred`: EOR (bitwise exclusive OR vectors, predicated). -/
def execEorPred (size : ReqInt) (zd : VReg) (pg : GovPred) (zn zm : VReg) (s : State) : Result :=
  perform .eorPred
    [requireSize [8, 16, 32, 64] size,
     requireLowPredicate pg,
     requireStyle [Style.merging] pg,
     requireSame zd zn]
    (placeEorPred size zd pg zm) s

/-- R219, what the default table gives `and_pred`: format `LOGICAL_PRED` (R103) and its fields. -/
def placeAndPred (size : ReqInt) (zd : VReg) (pg : GovPred) (zm : VReg) : Placement :=
  ⟨.logicalPred,
   [(.size, .expr (sizecode size)), (.opc, .const 0b010), (.pg, .expr pg.idx.toNat),
    (.zm, .expr zm.toNat), (.zdn, .expr zd.toNat)]⟩

/-- R219 `and_pred`: AND (bitwise AND vectors, predicated). -/
def execAndPred (size : ReqInt) (zd : VReg) (pg : GovPred) (zn zm : VReg) (s : State) : Result :=
  perform .andPred
    [requireSize [8, 16, 32, 64] size,
     requireLowPredicate pg,
     requireStyle [Style.merging] pg,
     requireSame zd zn]
    (placeAndPred size zd pg zm) s

/-- R220, what the default table gives `bic_pred`: format `LOGICAL_PRED` (R103) and its fields. -/
def placeBicPred (size : ReqInt) (zd : VReg) (pg : GovPred) (zm : VReg) : Placement :=
  ⟨.logicalPred,
   [(.size, .expr (sizecode size)), (.opc, .const 0b011), (.pg, .expr pg.idx.toNat),
    (.zm, .expr zm.toNat), (.zdn, .expr zd.toNat)]⟩

/-- R220 `bic_pred`: BIC (bitwise clear vectors, predicated). -/
def execBicPred (size : ReqInt) (zd : VReg) (pg : GovPred) (zn zm : VReg) (s : State) : Result :=
  perform .bicPred
    [requireSize [8, 16, 32, 64] size,
     requireLowPredicate pg,
     requireStyle [Style.merging] pg,
     requireSame zd zn]
    (placeBicPred size zd pg zm) s

/-- R221, what the default table gives `and_unpred`: format `LOGICAL_UNPRED` (R104) and its fields. -/
def placeAndUnpred (zd zn zm : VReg) : Placement :=
  ⟨.logicalUnpred,
   [(.opc, .const 0b00), (.zm, .expr zm.toNat), (.zn, .expr zn.toNat), (.zd, .expr zd.toNat)]⟩

/-- R221 `and_unpred`: AND (bitwise AND vectors, unpredicated). -/
def execAndUnpred (zd zn zm : VReg) (s : State) : Result :=
  perform .andUnpred []
    (placeAndUnpred zd zn zm) s

/-- R222, what the default table gives `orr_unpred`: format `LOGICAL_UNPRED` (R104) and its fields. -/
def placeOrrUnpred (zd zn zm : VReg) : Placement :=
  ⟨.logicalUnpred,
   [(.opc, .const 0b01), (.zm, .expr zm.toNat), (.zn, .expr zn.toNat), (.zd, .expr zd.toNat)]⟩

/-- R222 `orr_unpred`: ORR (bitwise inclusive OR vectors, unpredicated). -/
def execOrrUnpred (zd zn zm : VReg) (s : State) : Result :=
  perform .orrUnpred []
    (placeOrrUnpred zd zn zm) s

/-- R223, what the default table gives `eor_unpred`: format `LOGICAL_UNPRED` (R104) and its fields. -/
def placeEorUnpred (zd zn zm : VReg) : Placement :=
  ⟨.logicalUnpred,
   [(.opc, .const 0b10), (.zm, .expr zm.toNat), (.zn, .expr zn.toNat), (.zd, .expr zd.toNat)]⟩

/-- R223 `eor_unpred`: EOR (bitwise exclusive OR vectors, unpredicated). -/
def execEorUnpred (zd zn zm : VReg) (s : State) : Result :=
  perform .eorUnpred []
    (placeEorUnpred zd zn zm) s

/-- R224, what the default table gives `bic_unpred`: format `LOGICAL_UNPRED` (R104) and its fields. -/
def placeBicUnpred (zd zn zm : VReg) : Placement :=
  ⟨.logicalUnpred,
   [(.opc, .const 0b11), (.zm, .expr zm.toNat), (.zn, .expr zn.toNat), (.zd, .expr zd.toNat)]⟩

/-- R224 `bic_unpred`: BIC (bitwise clear vectors, unpredicated). -/
def execBicUnpred (zd zn zm : VReg) (s : State) : Result :=
  perform .bicUnpred []
    (placeBicUnpred zd zn zm) s

/-- R225, what the default table gives `cadd`: format `INT_COMPLEX_ADD` (R105) and its fields. -/
def placeCadd (size : ReqInt) (zd zm : VReg) (rot : ReqInt) : Placement :=
  ⟨.intComplexAdd,
   [(.size, .expr (sizecode size)), (.op, .const 0b0), (.rot, .expr (oddRotation rot)),
    (.zm, .expr zm.toNat), (.zdn, .expr zd.toNat)]⟩

/-- R225 `cadd`: CADD (complex integer add with rotate). -/
def execCadd (size : ReqInt) (zd zn zm : VReg) (rot : ReqInt) (s : State) : Result :=
  perform .cadd [requireSize [8, 16, 32, 64] size, requireRotation [90, 270] rot, requireSame zd zn]
    (placeCadd size zd zm rot) s

/-- R226, what the default table gives `sqcadd`: format `INT_COMPLEX_ADD` (R105) and its fields. -/
def placeSqcadd (size : ReqInt) (zd zm : VReg) (rot : ReqInt) : Placement :=
  ⟨.intComplexAdd,
   [(.size, .expr (sizecode size)), (.op, .const 0b1), (.rot, .expr (oddRotation rot)),
    (.zm, .expr zm.toNat), (.zdn, .expr zd.toNat)]⟩

/-- R226 `sqcadd`: SQCADD (saturating complex integer add with rotate). -/
def execSqcadd (size : ReqInt) (zd zn zm : VReg) (rot : ReqInt) (s : State) : Result :=
  perform .sqcadd
    [requireSize [8, 16, 32, 64] size, requireRotation [90, 270] rot, requireSame zd zn]
    (placeSqcadd size zd zm rot) s

/-- R227, what the default table gives `cmla`: format `INT_COMPLEX_MLA` (R106) and its fields. -/
def placeCmla (size : ReqInt) (zda zn zm : VReg) (rot : ReqInt) : Placement :=
  ⟨.intComplexMla,
   [(.size, .expr (sizecode size)), (.zm, .expr zm.toNat), (.rot, .expr (rot.toNat / 90)),
    (.zn, .expr zn.toNat), (.zda, .expr zda.toNat)]⟩

/-- R227 `cmla`: CMLA (complex integer multiply-add with rotate). -/
def execCmla (size : ReqInt) (zda zn zm : VReg) (rot : ReqInt) (s : State) : Result :=
  perform .cmla [requireSize [8, 16, 32, 64] size, requireRotation [0, 90, 180, 270] rot]
    (placeCmla size zda zn zm rot) s

end Sys2Proof.Machine
end

