-- ==== Sys2Proof/Machine/MulDivReduction.lean ====
section
/-! DEFINITION. The meanings of the operations of spec/44_muldiv_reduction.md (R262 to R277), one definition each:
the `require` lines in the order the rule writes them, and the word its packer builds from what the table gives its fields (R178). -/

namespace Sys2Proof.Machine

/-- R262, what the default table gives `mul_pred`: format `MULDIV_PRED` (R115) and its fields. -/
def placeMulPred (size : ReqInt) (zd : VReg) (pg : GovPred) (zm : VReg) : Placement :=
  ⟨.muldivPred,
   [(.size, .expr (sizecode size)), (.opc, .const 0b000), (.pg, .expr pg.idx.toNat),
    (.zm, .expr zm.toNat), (.zdn, .expr zd.toNat)]⟩

/-- R262 `mul_pred`: MUL (multiply vectors, predicated). -/
def execMulPred (size : ReqInt) (zd : VReg) (pg : GovPred) (zn zm : VReg) (s : State) : Result :=
  perform .mulPred
    [requireSize [8, 16, 32, 64] size,
     requireLowPredicate pg,
     requireStyle [Style.merging] pg,
     requireSame zd zn]
    (placeMulPred size zd pg zm) s

/-- R263, what the default table gives `smulh_pred`: format `MULDIV_PRED` (R115) and its fields. -/
def placeSmulhPred (size : ReqInt) (zd : VReg) (pg : GovPred) (zm : VReg) : Placement :=
  ⟨.muldivPred,
   [(.size, .expr (sizecode size)), (.opc, .const 0b010), (.pg, .expr pg.idx.toNat),
    (.zm, .expr zm.toNat), (.zdn, .expr zd.toNat)]⟩

/-- R263 `smulh_pred`: SMULH (signed multiply returning high half vectors, predicated). -/
def execSmulhPred (size : ReqInt) (zd : VReg) (pg : GovPred) (zn zm : VReg) (s : State) : Result :=
  perform .smulhPred
    [requireSize [8, 16, 32, 64] size,
     requireLowPredicate pg,
     requireStyle [Style.merging] pg,
     requireSame zd zn]
    (placeSmulhPred size zd pg zm) s

/-- R264, what the default table gives `umulh_pred`: format `MULDIV_PRED` (R115) and its fields. -/
def placeUmulhPred (size : ReqInt) (zd : VReg) (pg : GovPred) (zm : VReg) : Placement :=
  ⟨.muldivPred,
   [(.size, .expr (sizecode size)), (.opc, .const 0b011), (.pg, .expr pg.idx.toNat),
    (.zm, .expr zm.toNat), (.zdn, .expr zd.toNat)]⟩

/-- R264 `umulh_pred`: UMULH (unsigned multiply returning high half vectors, predicated). -/
def execUmulhPred (size : ReqInt) (zd : VReg) (pg : GovPred) (zn zm : VReg) (s : State) : Result :=
  perform .umulhPred
    [requireSize [8, 16, 32, 64] size,
     requireLowPredicate pg,
     requireStyle [Style.merging] pg,
     requireSame zd zn]
    (placeUmulhPred size zd pg zm) s

/-- R265, what the default table gives `sdiv_pred`: format `MULDIV_PRED` (R115) and its fields. -/
def placeSdivPred (size : ReqInt) (zd : VReg) (pg : GovPred) (zm : VReg) : Placement :=
  ⟨.muldivPred,
   [(.size, .expr (sizecode size)), (.opc, .const 0b100), (.pg, .expr pg.idx.toNat),
    (.zm, .expr zm.toNat), (.zdn, .expr zd.toNat)]⟩

/-- R265 `sdiv_pred`: SDIV (signed divide vectors, predicated). -/
def execSdivPred (size : ReqInt) (zd : VReg) (pg : GovPred) (zn zm : VReg) (s : State) : Result :=
  perform .sdivPred
    [requireSize [32, 64] size,
     requireLowPredicate pg,
     requireStyle [Style.merging] pg,
     requireSame zd zn]
    (placeSdivPred size zd pg zm) s

/-- R266, what the default table gives `udiv_pred`: format `MULDIV_PRED` (R115) and its fields. -/
def placeUdivPred (size : ReqInt) (zd : VReg) (pg : GovPred) (zm : VReg) : Placement :=
  ⟨.muldivPred,
   [(.size, .expr (sizecode size)), (.opc, .const 0b101), (.pg, .expr pg.idx.toNat),
    (.zm, .expr zm.toNat), (.zdn, .expr zd.toNat)]⟩

/-- R266 `udiv_pred`: UDIV (unsigned divide vectors, predicated). -/
def execUdivPred (size : ReqInt) (zd : VReg) (pg : GovPred) (zn zm : VReg) (s : State) : Result :=
  perform .udivPred
    [requireSize [32, 64] size,
     requireLowPredicate pg,
     requireStyle [Style.merging] pg,
     requireSame zd zn]
    (placeUdivPred size zd pg zm) s

/-- R267, what the default table gives `sdivr_pred`: format `MULDIV_PRED` (R115) and its fields. -/
def placeSdivrPred (size : ReqInt) (zd : VReg) (pg : GovPred) (zm : VReg) : Placement :=
  ⟨.muldivPred,
   [(.size, .expr (sizecode size)), (.opc, .const 0b110), (.pg, .expr pg.idx.toNat),
    (.zm, .expr zm.toNat), (.zdn, .expr zd.toNat)]⟩

/-- R267 `sdivr_pred`: SDIVR (signed reversed divide vectors, predicated). -/
def execSdivrPred (size : ReqInt) (zd : VReg) (pg : GovPred) (zn zm : VReg) (s : State) : Result :=
  perform .sdivrPred
    [requireSize [32, 64] size,
     requireLowPredicate pg,
     requireStyle [Style.merging] pg,
     requireSame zd zn]
    (placeSdivrPred size zd pg zm) s

/-- R268, what the default table gives `udivr_pred`: format `MULDIV_PRED` (R115) and its fields. -/
def placeUdivrPred (size : ReqInt) (zd : VReg) (pg : GovPred) (zm : VReg) : Placement :=
  ⟨.muldivPred,
   [(.size, .expr (sizecode size)), (.opc, .const 0b111), (.pg, .expr pg.idx.toNat),
    (.zm, .expr zm.toNat), (.zdn, .expr zd.toNat)]⟩

/-- R268 `udivr_pred`: UDIVR (unsigned reversed divide vectors, predicated). -/
def execUdivrPred (size : ReqInt) (zd : VReg) (pg : GovPred) (zn zm : VReg) (s : State) : Result :=
  perform .udivrPred
    [requireSize [32, 64] size,
     requireLowPredicate pg,
     requireStyle [Style.merging] pg,
     requireSame zd zn]
    (placeUdivrPred size zd pg zm) s

/-- R269, what the default table gives `saddv`: format `REDUCTION` (R116) and its fields. -/
def placeSaddv (size : ReqInt) (vd : VReg) (pg : GovPred) (zn : VReg) : Placement :=
  ⟨.reduction,
   [(.size, .expr (sizecode size)), (.opc, .const 0b00000), (.pg, .expr pg.idx.toNat),
    (.zn, .expr zn.toNat), (.vd, .expr vd.toNat)]⟩

/-- R269 `saddv`: SADDV (signed add reduction to scalar). -/
def execSaddv (size : ReqInt) (vd : VReg) (pg : GovPred) (zn : VReg) (s : State) : Result :=
  perform .saddv
    [requireSize [8, 16, 32] size, requireLowPredicate pg, requireStyle [Style.plain] pg]
    (placeSaddv size vd pg zn) s

/-- R270, what the default table gives `uaddv`: format `REDUCTION` (R116) and its fields. -/
def placeUaddv (size : ReqInt) (vd : VReg) (pg : GovPred) (zn : VReg) : Placement :=
  ⟨.reduction,
   [(.size, .expr (sizecode size)), (.opc, .const 0b00001), (.pg, .expr pg.idx.toNat),
    (.zn, .expr zn.toNat), (.vd, .expr vd.toNat)]⟩

/-- R270 `uaddv`: UADDV (unsigned add reduction to scalar). -/
def execUaddv (size : ReqInt) (vd : VReg) (pg : GovPred) (zn : VReg) (s : State) : Result :=
  perform .uaddv
    [requireSize [8, 16, 32, 64] size, requireLowPredicate pg, requireStyle [Style.plain] pg]
    (placeUaddv size vd pg zn) s

/-- R271, what the default table gives `smaxv`: format `REDUCTION` (R116) and its fields. -/
def placeSmaxv (size : ReqInt) (vd : VReg) (pg : GovPred) (zn : VReg) : Placement :=
  ⟨.reduction,
   [(.size, .expr (sizecode size)), (.opc, .const 0b01000), (.pg, .expr pg.idx.toNat),
    (.zn, .expr zn.toNat), (.vd, .expr vd.toNat)]⟩

/-- R271 `smaxv`: SMAXV (signed maximum reduction to scalar). -/
def execSmaxv (size : ReqInt) (vd : VReg) (pg : GovPred) (zn : VReg) (s : State) : Result :=
  perform .smaxv
    [requireSize [8, 16, 32, 64] size, requireLowPredicate pg, requireStyle [Style.plain] pg]
    (placeSmaxv size vd pg zn) s

/-- R272, what the default table gives `umaxv`: format `REDUCTION` (R116) and its fields. -/
def placeUmaxv (size : ReqInt) (vd : VReg) (pg : GovPred) (zn : VReg) : Placement :=
  ⟨.reduction,
   [(.size, .expr (sizecode size)), (.opc, .const 0b01001), (.pg, .expr pg.idx.toNat),
    (.zn, .expr zn.toNat), (.vd, .expr vd.toNat)]⟩

/-- R272 `umaxv`: UMAXV (unsigned maximum reduction to scalar). -/
def execUmaxv (size : ReqInt) (vd : VReg) (pg : GovPred) (zn : VReg) (s : State) : Result :=
  perform .umaxv
    [requireSize [8, 16, 32, 64] size, requireLowPredicate pg, requireStyle [Style.plain] pg]
    (placeUmaxv size vd pg zn) s

/-- R273, what the default table gives `sminv`: format `REDUCTION` (R116) and its fields. -/
def placeSminv (size : ReqInt) (vd : VReg) (pg : GovPred) (zn : VReg) : Placement :=
  ⟨.reduction,
   [(.size, .expr (sizecode size)), (.opc, .const 0b01010), (.pg, .expr pg.idx.toNat),
    (.zn, .expr zn.toNat), (.vd, .expr vd.toNat)]⟩

/-- R273 `sminv`: SMINV (signed minimum reduction to scalar). -/
def execSminv (size : ReqInt) (vd : VReg) (pg : GovPred) (zn : VReg) (s : State) : Result :=
  perform .sminv
    [requireSize [8, 16, 32, 64] size, requireLowPredicate pg, requireStyle [Style.plain] pg]
    (placeSminv size vd pg zn) s

/-- R274, what the default table gives `uminv`: format `REDUCTION` (R116) and its fields. -/
def placeUminv (size : ReqInt) (vd : VReg) (pg : GovPred) (zn : VReg) : Placement :=
  ⟨.reduction,
   [(.size, .expr (sizecode size)), (.opc, .const 0b01011), (.pg, .expr pg.idx.toNat),
    (.zn, .expr zn.toNat), (.vd, .expr vd.toNat)]⟩

/-- R274 `uminv`: UMINV (unsigned minimum reduction to scalar). -/
def execUminv (size : ReqInt) (vd : VReg) (pg : GovPred) (zn : VReg) (s : State) : Result :=
  perform .uminv
    [requireSize [8, 16, 32, 64] size, requireLowPredicate pg, requireStyle [Style.plain] pg]
    (placeUminv size vd pg zn) s

/-- R275, what the default table gives `orv`: format `REDUCTION` (R116) and its fields. -/
def placeOrv (size : ReqInt) (vd : VReg) (pg : GovPred) (zn : VReg) : Placement :=
  ⟨.reduction,
   [(.size, .expr (sizecode size)), (.opc, .const 0b11000), (.pg, .expr pg.idx.toNat),
    (.zn, .expr zn.toNat), (.vd, .expr vd.toNat)]⟩

/-- R275 `orv`: ORV (bitwise inclusive OR reduction to scalar). -/
def execOrv (size : ReqInt) (vd : VReg) (pg : GovPred) (zn : VReg) (s : State) : Result :=
  perform .orv
    [requireSize [8, 16, 32, 64] size, requireLowPredicate pg, requireStyle [Style.plain] pg]
    (placeOrv size vd pg zn) s

/-- R276, what the default table gives `eorv`: format `REDUCTION` (R116) and its fields. -/
def placeEorv (size : ReqInt) (vd : VReg) (pg : GovPred) (zn : VReg) : Placement :=
  ⟨.reduction,
   [(.size, .expr (sizecode size)), (.opc, .const 0b11001), (.pg, .expr pg.idx.toNat),
    (.zn, .expr zn.toNat), (.vd, .expr vd.toNat)]⟩

/-- R276 `eorv`: EORV (bitwise exclusive OR reduction to scalar). -/
def execEorv (size : ReqInt) (vd : VReg) (pg : GovPred) (zn : VReg) (s : State) : Result :=
  perform .eorv
    [requireSize [8, 16, 32, 64] size, requireLowPredicate pg, requireStyle [Style.plain] pg]
    (placeEorv size vd pg zn) s

/-- R277, what the default table gives `andv`: format `REDUCTION` (R116) and its fields. -/
def placeAndv (size : ReqInt) (vd : VReg) (pg : GovPred) (zn : VReg) : Placement :=
  ⟨.reduction,
   [(.size, .expr (sizecode size)), (.opc, .const 0b11010), (.pg, .expr pg.idx.toNat),
    (.zn, .expr zn.toNat), (.vd, .expr vd.toNat)]⟩

/-- R277 `andv`: ANDV (bitwise AND reduction to scalar). -/
def execAndv (size : ReqInt) (vd : VReg) (pg : GovPred) (zn : VReg) (s : State) : Result :=
  perform .andv
    [requireSize [8, 16, 32, 64] size, requireLowPredicate pg, requireStyle [Style.plain] pg]
    (placeAndv size vd pg zn) s

end Sys2Proof.Machine
end

