-- ==== Sys2Proof/Machine/Permute.lean ====
section
/-! DEFINITION. The meanings of the operations of spec/43_permute_table_move.md (R248 to R260), one definition each:
the `require` lines in the order the rule writes them, and the word its packer builds from what the table gives its fields (R178). -/

namespace Sys2Proof.Machine

/-- R248, what the default table gives `zip1`: format `PERMUTE_VEC` (R110) and its fields. -/
def placeZip1 (size : ReqInt) (zd zn zm : VReg) : Placement :=
  ⟨.permuteVec,
   [(.size, .expr (sizecode size)), (.zm, .expr zm.toNat), (.opc, .const 0b000), (.zn, .expr zn.toNat),
    (.zd, .expr zd.toNat)]⟩

/-- R248 `zip1`: ZIP1 (interleave elements from the low halves of two vectors). -/
def execZip1 (size : ReqInt) (zd zn zm : VReg) (s : State) : Result :=
  perform .zip1 [requireSize [8, 16, 32, 64] size]
    (placeZip1 size zd zn zm) s

/-- R249, what the default table gives `zip2`: format `PERMUTE_VEC` (R110) and its fields. -/
def placeZip2 (size : ReqInt) (zd zn zm : VReg) : Placement :=
  ⟨.permuteVec,
   [(.size, .expr (sizecode size)), (.zm, .expr zm.toNat), (.opc, .const 0b001), (.zn, .expr zn.toNat),
    (.zd, .expr zd.toNat)]⟩

/-- R249 `zip2`: ZIP2 (interleave elements from the high halves of two vectors). -/
def execZip2 (size : ReqInt) (zd zn zm : VReg) (s : State) : Result :=
  perform .zip2 [requireSize [8, 16, 32, 64] size]
    (placeZip2 size zd zn zm) s

/-- R250, what the default table gives `uzp1`: format `PERMUTE_VEC` (R110) and its fields. -/
def placeUzp1 (size : ReqInt) (zd zn zm : VReg) : Placement :=
  ⟨.permuteVec,
   [(.size, .expr (sizecode size)), (.zm, .expr zm.toNat), (.opc, .const 0b010), (.zn, .expr zn.toNat),
    (.zd, .expr zd.toNat)]⟩

/-- R250 `uzp1`: UZP1 (concatenate even elements of two vectors). -/
def execUzp1 (size : ReqInt) (zd zn zm : VReg) (s : State) : Result :=
  perform .uzp1 [requireSize [8, 16, 32, 64] size]
    (placeUzp1 size zd zn zm) s

/-- R251, what the default table gives `uzp2`: format `PERMUTE_VEC` (R110) and its fields. -/
def placeUzp2 (size : ReqInt) (zd zn zm : VReg) : Placement :=
  ⟨.permuteVec,
   [(.size, .expr (sizecode size)), (.zm, .expr zm.toNat), (.opc, .const 0b011), (.zn, .expr zn.toNat),
    (.zd, .expr zd.toNat)]⟩

/-- R251 `uzp2`: UZP2 (concatenate odd elements of two vectors). -/
def execUzp2 (size : ReqInt) (zd zn zm : VReg) (s : State) : Result :=
  perform .uzp2 [requireSize [8, 16, 32, 64] size]
    (placeUzp2 size zd zn zm) s

/-- R252, what the default table gives `trn1`: format `PERMUTE_VEC` (R110) and its fields. -/
def placeTrn1 (size : ReqInt) (zd zn zm : VReg) : Placement :=
  ⟨.permuteVec,
   [(.size, .expr (sizecode size)), (.zm, .expr zm.toNat), (.opc, .const 0b100), (.zn, .expr zn.toNat),
    (.zd, .expr zd.toNat)]⟩

/-- R252 `trn1`: TRN1 (interleave even elements of two vectors). -/
def execTrn1 (size : ReqInt) (zd zn zm : VReg) (s : State) : Result :=
  perform .trn1 [requireSize [8, 16, 32, 64] size]
    (placeTrn1 size zd zn zm) s

/-- R253, what the default table gives `trn2`: format `PERMUTE_VEC` (R110) and its fields. -/
def placeTrn2 (size : ReqInt) (zd zn zm : VReg) : Placement :=
  ⟨.permuteVec,
   [(.size, .expr (sizecode size)), (.zm, .expr zm.toNat), (.opc, .const 0b101), (.zn, .expr zn.toNat),
    (.zd, .expr zd.toNat)]⟩

/-- R253 `trn2`: TRN2 (interleave odd elements of two vectors). -/
def execTrn2 (size : ReqInt) (zd zn zm : VReg) (s : State) : Result :=
  perform .trn2 [requireSize [8, 16, 32, 64] size]
    (placeTrn2 size zd zn zm) s

/-- R254, what the default table gives `tbl`: format `TABLE_LOOKUP` (R111) and its fields. -/
def placeTbl (size : ReqInt) (zd zn zm : VReg) : Placement :=
  ⟨.tableLookup,
   [(.size, .expr (sizecode size)), (.zm, .expr zm.toNat), (.op, .const 0b100), (.zn, .expr zn.toNat),
    (.zd, .expr zd.toNat)]⟩

/-- R254 `tbl`: TBL (table lookup in one vector). -/
def execTbl (size : ReqInt) (zd zn zm : VReg) (s : State) : Result :=
  perform .tbl [requireSize [8, 16, 32, 64] size]
    (placeTbl size zd zn zm) s

/-- R255, what the default table gives `tbx`: format `TABLE_LOOKUP` (R111) and its fields. -/
def placeTbx (size : ReqInt) (zd zn zm : VReg) : Placement :=
  ⟨.tableLookup,
   [(.size, .expr (sizecode size)), (.zm, .expr zm.toNat), (.op, .const 0b011), (.zn, .expr zn.toNat),
    (.zd, .expr zd.toNat)]⟩

/-- R255 `tbx`: TBX (table lookup in one vector, out-of-range indices leave the destination element unchanged). -/
def execTbx (size : ReqInt) (zd zn zm : VReg) (s : State) : Result :=
  perform .tbx [requireSize [8, 16, 32, 64] size]
    (placeTbx size zd zn zm) s

/-- R256, what the default table gives `dup_indexed`: format `DUP_INDEXED` (R112) and its fields. -/
def placeDupIndexed (size : ReqInt) (zd zn : VReg) (index : ReqInt) : Placement :=
  let v7 := indexedImmediate size index
  ⟨.dupIndexed,
   [(.imm2, .expr ((v7.extractLsb' 5 2).toNat)), (.tsz, .expr ((v7.extractLsb' 0 5).toNat)),
    (.zn, .expr zn.toNat), (.zd, .expr zd.toNat)]⟩

/-- R256 `dup_indexed`: DUP (duplicate one indexed element of a vector to every element). -/
def execDupIndexed (size : ReqInt) (zd zn : VReg) (index : ReqInt) (s : State) : Result :=
  perform .dupIndexed [requireSize [8, 16, 32, 64, 128] size, requireIndex size index]
    (placeDupIndexed size zd zn index) s

/-- R257, what the default table gives `ext_destructive`: format `EXT` (R113) and its fields. -/
def placeExtDestructive (zd zm : VReg) (imm : ReqInt) : Placement :=
  ⟨.ext,
   [(.form, .const 0b0), (.imm8h, .expr ((imm.extractLsb' 3 5).toNat)),
    (.imm8l, .expr ((imm.extractLsb' 0 3).toNat)), (.zs, .expr zm.toNat), (.zd, .expr zd.toNat)]⟩

/-- R257 `ext_destructive`: EXT (extract a vector from a pair of vectors at a byte offset, destructive form). -/
def execExtDestructive (zd zn zm : VReg) (imm : ReqInt) (s : State) : Result :=
  perform .extDestructive [requireInterval 0 255 imm, requireSame zd zn]
    (placeExtDestructive zd zm imm) s

/-- R258, what the default table gives `ext_constructive`: format `EXT` (R113) and its fields. -/
def placeExtConstructive (zd zn : VReg) (imm : ReqInt) : Placement :=
  ⟨.ext,
   [(.form, .const 0b1), (.imm8h, .expr ((imm.extractLsb' 3 5).toNat)),
    (.imm8l, .expr ((imm.extractLsb' 0 3).toNat)), (.zs, .expr zn.toNat), (.zd, .expr zd.toNat)]⟩

/-- R258 `ext_constructive`: EXT (extract a vector from a pair of consecutive vectors at a byte offset, constructive form). -/
def execExtConstructive (zd zn zm : VReg) (imm : ReqInt) (s : State) : Result :=
  perform .extConstructive [requireInterval 0 255 imm, requireSequence zn [zm]]
    (placeExtConstructive zd zn imm) s

/-- R259, what the default table gives `splice_destructive`: format `SPLICE` (R114) and its fields. -/
def placeSpliceDestructive (size : ReqInt) (zd : VReg) (pv : GovPred) (zm : VReg) : Placement :=
  ⟨.splice,
   [(.size, .expr (sizecode size)), (.form, .const 0b0), (.pg, .expr pv.idx.toNat),
    (.zs, .expr zm.toNat), (.zd, .expr zd.toNat)]⟩

/-- R259 `splice_destructive`: SPLICE (splice two vectors under predicate control, destructive form). -/
def execSpliceDestructive (size : ReqInt) (zd : VReg) (pv : GovPred) (zn zm : VReg) (s : State) : Result :=
  perform .spliceDestructive
    [requireSize [8, 16, 32, 64] size,
     requireLowPredicate pv,
     requireStyle [Style.plain] pv,
     requireSame zd zn]
    (placeSpliceDestructive size zd pv zm) s

/-- R260, what the default table gives `splice_constructive`: format `SPLICE` (R114) and its fields. -/
def placeSpliceConstructive (size : ReqInt) (zd : VReg) (pv : GovPred) (zn : VReg) : Placement :=
  ⟨.splice,
   [(.size, .expr (sizecode size)), (.form, .const 0b1), (.pg, .expr pv.idx.toNat),
    (.zs, .expr zn.toNat), (.zd, .expr zd.toNat)]⟩

/-- R260 `splice_constructive`: SPLICE (splice two consecutive vectors under predicate control, constructive form). -/
def execSpliceConstructive (size : ReqInt) (zd : VReg) (pv : GovPred) (zn zm : VReg) (s : State) : Result :=
  perform .spliceConstructive
    [requireSize [8, 16, 32, 64] size,
     requireLowPredicate pv,
     requireStyle [Style.plain] pv,
     requireSequence zn [zm]]
    (placeSpliceConstructive size zd pv zn) s

end Sys2Proof.Machine
end

