-- ==== Sys2Proof/Machine/Predicate.lean ====
section
/-! DEFINITION. The meanings of the operations of spec/45_predicate.md (R280 to R315), one definition each:
the `require` lines in the order the rule writes them, and the word its packer builds from what the table gives its fields (R178). -/

namespace Sys2Proof.Machine

/-- R280, what the default table gives `and_p`: format `PRED_LOGICAL` (R117) and its fields. -/
def placeAndP (pd : PReg) (pg : GovPred) (pn pm : PReg) : Placement :=
  ⟨.predLogical,
   [(.op, .const 0b0), (.s, .const 0b0), (.pm, .expr pm.toNat), (.pg, .expr pg.idx.toNat),
    (.o2, .const 0b0), (.pn, .expr pn.toNat), (.o3, .const 0b0), (.pd, .expr pd.toNat)]⟩

/-- R280 `and_p`: AND (bitwise AND predicates). -/
def execAndP (pd : PReg) (pg : GovPred) (pn pm : PReg) (s : State) : Result :=
  perform .andP [requireStyle [Style.zeroing] pg]
    (placeAndP pd pg pn pm) s

/-- R281, what the default table gives `bic_p`: format `PRED_LOGICAL` (R117) and its fields. -/
def placeBicP (pd : PReg) (pg : GovPred) (pn pm : PReg) : Placement :=
  ⟨.predLogical,
   [(.op, .const 0b0), (.s, .const 0b0), (.pm, .expr pm.toNat), (.pg, .expr pg.idx.toNat),
    (.o2, .const 0b0), (.pn, .expr pn.toNat), (.o3, .const 0b1), (.pd, .expr pd.toNat)]⟩

/-- R281 `bic_p`: BIC (bitwise clear predicates). -/
def execBicP (pd : PReg) (pg : GovPred) (pn pm : PReg) (s : State) : Result :=
  perform .bicP [requireStyle [Style.zeroing] pg]
    (placeBicP pd pg pn pm) s

/-- R282, what the default table gives `eor_p`: format `PRED_LOGICAL` (R117) and its fields. -/
def placeEorP (pd : PReg) (pg : GovPred) (pn pm : PReg) : Placement :=
  ⟨.predLogical,
   [(.op, .const 0b0), (.s, .const 0b0), (.pm, .expr pm.toNat), (.pg, .expr pg.idx.toNat),
    (.o2, .const 0b1), (.pn, .expr pn.toNat), (.o3, .const 0b0), (.pd, .expr pd.toNat)]⟩

/-- R282 `eor_p`: EOR (bitwise exclusive OR predicates). -/
def execEorP (pd : PReg) (pg : GovPred) (pn pm : PReg) (s : State) : Result :=
  perform .eorP [requireStyle [Style.zeroing] pg]
    (placeEorP pd pg pn pm) s

/-- R283, what the default table gives `sel_p`: format `PRED_LOGICAL` (R117) and its fields. -/
def placeSelP (pd : PReg) (pg : GovPred) (pn pm : PReg) : Placement :=
  ⟨.predLogical,
   [(.op, .const 0b0), (.s, .const 0b0), (.pm, .expr pm.toNat), (.pg, .expr pg.idx.toNat),
    (.o2, .const 0b1), (.pn, .expr pn.toNat), (.o3, .const 0b1), (.pd, .expr pd.toNat)]⟩

/-- R283 `sel_p`: SEL (conditionally select predicates). -/
def execSelP (pd : PReg) (pg : GovPred) (pn pm : PReg) (s : State) : Result :=
  perform .selP [requireStyle [Style.plain] pg]
    (placeSelP pd pg pn pm) s

/-- R284, what the default table gives `orr_p`: format `PRED_LOGICAL` (R117) and its fields. -/
def placeOrrP (pd : PReg) (pg : GovPred) (pn pm : PReg) : Placement :=
  ⟨.predLogical,
   [(.op, .const 0b1), (.s, .const 0b0), (.pm, .expr pm.toNat), (.pg, .expr pg.idx.toNat),
    (.o2, .const 0b0), (.pn, .expr pn.toNat), (.o3, .const 0b0), (.pd, .expr pd.toNat)]⟩

/-- R284 `orr_p`: ORR (bitwise inclusive OR predicates). -/
def execOrrP (pd : PReg) (pg : GovPred) (pn pm : PReg) (s : State) : Result :=
  perform .orrP [requireStyle [Style.zeroing] pg]
    (placeOrrP pd pg pn pm) s

/-- R285, what the default table gives `orn_p`: format `PRED_LOGICAL` (R117) and its fields. -/
def placeOrnP (pd : PReg) (pg : GovPred) (pn pm : PReg) : Placement :=
  ⟨.predLogical,
   [(.op, .const 0b1), (.s, .const 0b0), (.pm, .expr pm.toNat), (.pg, .expr pg.idx.toNat),
    (.o2, .const 0b0), (.pn, .expr pn.toNat), (.o3, .const 0b1), (.pd, .expr pd.toNat)]⟩

/-- R285 `orn_p`: ORN (bitwise inclusive OR inverted predicates). -/
def execOrnP (pd : PReg) (pg : GovPred) (pn pm : PReg) (s : State) : Result :=
  perform .ornP [requireStyle [Style.zeroing] pg]
    (placeOrnP pd pg pn pm) s

/-- R286, what the default table gives `nor_p`: format `PRED_LOGICAL` (R117) and its fields. -/
def placeNorP (pd : PReg) (pg : GovPred) (pn pm : PReg) : Placement :=
  ⟨.predLogical,
   [(.op, .const 0b1), (.s, .const 0b0), (.pm, .expr pm.toNat), (.pg, .expr pg.idx.toNat),
    (.o2, .const 0b1), (.pn, .expr pn.toNat), (.o3, .const 0b0), (.pd, .expr pd.toNat)]⟩

/-- R286 `nor_p`: NOR (bitwise NOR predicates). -/
def execNorP (pd : PReg) (pg : GovPred) (pn pm : PReg) (s : State) : Result :=
  perform .norP [requireStyle [Style.zeroing] pg]
    (placeNorP pd pg pn pm) s

/-- R287, what the default table gives `nand_p`: format `PRED_LOGICAL` (R117) and its fields. -/
def placeNandP (pd : PReg) (pg : GovPred) (pn pm : PReg) : Placement :=
  ⟨.predLogical,
   [(.op, .const 0b1), (.s, .const 0b0), (.pm, .expr pm.toNat), (.pg, .expr pg.idx.toNat),
    (.o2, .const 0b1), (.pn, .expr pn.toNat), (.o3, .const 0b1), (.pd, .expr pd.toNat)]⟩

/-- R287 `nand_p`: NAND (bitwise NAND predicates). -/
def execNandP (pd : PReg) (pg : GovPred) (pn pm : PReg) (s : State) : Result :=
  perform .nandP [requireStyle [Style.zeroing] pg]
    (placeNandP pd pg pn pm) s

/-- R288, what the default table gives `ands_p`: format `PRED_LOGICAL` (R117) and its fields. -/
def placeAndsP (pd : PReg) (pg : GovPred) (pn pm : PReg) : Placement :=
  ⟨.predLogical,
   [(.op, .const 0b0), (.s, .const 0b1), (.pm, .expr pm.toNat), (.pg, .expr pg.idx.toNat),
    (.o2, .const 0b0), (.pn, .expr pn.toNat), (.o3, .const 0b0), (.pd, .expr pd.toNat)]⟩

/-- R288 `ands_p`: ANDS (bitwise AND predicates, setting the condition flags). -/
def execAndsP (pd : PReg) (pg : GovPred) (pn pm : PReg) (s : State) : Result :=
  perform .andsP [requireStyle [Style.zeroing] pg]
    (placeAndsP pd pg pn pm) s

/-- R289, what the default table gives `bics_p`: format `PRED_LOGICAL` (R117) and its fields. -/
def placeBicsP (pd : PReg) (pg : GovPred) (pn pm : PReg) : Placement :=
  ⟨.predLogical,
   [(.op, .const 0b0), (.s, .const 0b1), (.pm, .expr pm.toNat), (.pg, .expr pg.idx.toNat),
    (.o2, .const 0b0), (.pn, .expr pn.toNat), (.o3, .const 0b1), (.pd, .expr pd.toNat)]⟩

/-- R289 `bics_p`: BICS (bitwise clear predicates, setting the condition flags). -/
def execBicsP (pd : PReg) (pg : GovPred) (pn pm : PReg) (s : State) : Result :=
  perform .bicsP [requireStyle [Style.zeroing] pg]
    (placeBicsP pd pg pn pm) s

/-- R290, what the default table gives `eors_p`: format `PRED_LOGICAL` (R117) and its fields. -/
def placeEorsP (pd : PReg) (pg : GovPred) (pn pm : PReg) : Placement :=
  ⟨.predLogical,
   [(.op, .const 0b0), (.s, .const 0b1), (.pm, .expr pm.toNat), (.pg, .expr pg.idx.toNat),
    (.o2, .const 0b1), (.pn, .expr pn.toNat), (.o3, .const 0b0), (.pd, .expr pd.toNat)]⟩

/-- R290 `eors_p`: EORS (bitwise exclusive OR predicates, setting the condition flags). -/
def execEorsP (pd : PReg) (pg : GovPred) (pn pm : PReg) (s : State) : Result :=
  perform .eorsP [requireStyle [Style.zeroing] pg]
    (placeEorsP pd pg pn pm) s

/-- R291, what the default table gives `orrs_p`: format `PRED_LOGICAL` (R117) and its fields. -/
def placeOrrsP (pd : PReg) (pg : GovPred) (pn pm : PReg) : Placement :=
  ⟨.predLogical,
   [(.op, .const 0b1), (.s, .const 0b1), (.pm, .expr pm.toNat), (.pg, .expr pg.idx.toNat),
    (.o2, .const 0b0), (.pn, .expr pn.toNat), (.o3, .const 0b0), (.pd, .expr pd.toNat)]⟩

/-- R291 `orrs_p`: ORRS (bitwise inclusive OR predicates, setting the condition flags). -/
def execOrrsP (pd : PReg) (pg : GovPred) (pn pm : PReg) (s : State) : Result :=
  perform .orrsP [requireStyle [Style.zeroing] pg]
    (placeOrrsP pd pg pn pm) s

/-- R292, what the default table gives `orns_p`: format `PRED_LOGICAL` (R117) and its fields. -/
def placeOrnsP (pd : PReg) (pg : GovPred) (pn pm : PReg) : Placement :=
  ⟨.predLogical,
   [(.op, .const 0b1), (.s, .const 0b1), (.pm, .expr pm.toNat), (.pg, .expr pg.idx.toNat),
    (.o2, .const 0b0), (.pn, .expr pn.toNat), (.o3, .const 0b1), (.pd, .expr pd.toNat)]⟩

/-- R292 `orns_p`: ORNS (bitwise inclusive OR inverted predicates, setting the condition flags). -/
def execOrnsP (pd : PReg) (pg : GovPred) (pn pm : PReg) (s : State) : Result :=
  perform .ornsP [requireStyle [Style.zeroing] pg]
    (placeOrnsP pd pg pn pm) s

/-- R293, what the default table gives `nors_p`: format `PRED_LOGICAL` (R117) and its fields. -/
def placeNorsP (pd : PReg) (pg : GovPred) (pn pm : PReg) : Placement :=
  ⟨.predLogical,
   [(.op, .const 0b1), (.s, .const 0b1), (.pm, .expr pm.toNat), (.pg, .expr pg.idx.toNat),
    (.o2, .const 0b1), (.pn, .expr pn.toNat), (.o3, .const 0b0), (.pd, .expr pd.toNat)]⟩

/-- R293 `nors_p`: NORS (bitwise NOR predicates, setting the condition flags). -/
def execNorsP (pd : PReg) (pg : GovPred) (pn pm : PReg) (s : State) : Result :=
  perform .norsP [requireStyle [Style.zeroing] pg]
    (placeNorsP pd pg pn pm) s

/-- R294, what the default table gives `nands_p`: format `PRED_LOGICAL` (R117) and its fields. -/
def placeNandsP (pd : PReg) (pg : GovPred) (pn pm : PReg) : Placement :=
  ⟨.predLogical,
   [(.op, .const 0b1), (.s, .const 0b1), (.pm, .expr pm.toNat), (.pg, .expr pg.idx.toNat),
    (.o2, .const 0b1), (.pn, .expr pn.toNat), (.o3, .const 0b1), (.pd, .expr pd.toNat)]⟩

/-- R294 `nands_p`: NANDS (bitwise NAND predicates, setting the condition flags). -/
def execNandsP (pd : PReg) (pg : GovPred) (pn pm : PReg) (s : State) : Result :=
  perform .nandsP [requireStyle [Style.zeroing] pg]
    (placeNandsP pd pg pn pm) s

/-- R295, what the default table gives `brkpa`: format `PROP_BREAK` (R118) and its fields. -/
def placeBrkpa (pd : PReg) (pg : GovPred) (pn pm : PReg) : Placement :=
  ⟨.propBreak,
   [(.s, .const 0b0), (.pm, .expr pm.toNat), (.pg, .expr pg.idx.toNat), (.pn, .expr pn.toNat),
    (.b, .const 0b0), (.pd, .expr pd.toNat)]⟩

/-- R295 `brkpa`: BRKPA (propagate break from previous partition, break after first true). -/
def execBrkpa (pd : PReg) (pg : GovPred) (pn pm : PReg) (s : State) : Result :=
  perform .brkpa [requireStyle [Style.zeroing] pg]
    (placeBrkpa pd pg pn pm) s

/-- R296, what the default table gives `brkpb`: format `PROP_BREAK` (R118) and its fields. -/
def placeBrkpb (pd : PReg) (pg : GovPred) (pn pm : PReg) : Placement :=
  ⟨.propBreak,
   [(.s, .const 0b0), (.pm, .expr pm.toNat), (.pg, .expr pg.idx.toNat), (.pn, .expr pn.toNat),
    (.b, .const 0b1), (.pd, .expr pd.toNat)]⟩

/-- R296 `brkpb`: BRKPB (propagate break from previous partition, break before first true). -/
def execBrkpb (pd : PReg) (pg : GovPred) (pn pm : PReg) (s : State) : Result :=
  perform .brkpb [requireStyle [Style.zeroing] pg]
    (placeBrkpb pd pg pn pm) s

/-- R297, what the default table gives `brkpas`: format `PROP_BREAK` (R118) and its fields. -/
def placeBrkpas (pd : PReg) (pg : GovPred) (pn pm : PReg) : Placement :=
  ⟨.propBreak,
   [(.s, .const 0b1), (.pm, .expr pm.toNat), (.pg, .expr pg.idx.toNat), (.pn, .expr pn.toNat),
    (.b, .const 0b0), (.pd, .expr pd.toNat)]⟩

/-- R297 `brkpas`: BRKPAS (propagate break from previous partition, break after first true, setting the condition flags). -/
def execBrkpas (pd : PReg) (pg : GovPred) (pn pm : PReg) (s : State) : Result :=
  perform .brkpas [requireStyle [Style.zeroing] pg]
    (placeBrkpas pd pg pn pm) s

/-- R298, what the default table gives `brkpbs`: format `PROP_BREAK` (R118) and its fields. -/
def placeBrkpbs (pd : PReg) (pg : GovPred) (pn pm : PReg) : Placement :=
  ⟨.propBreak,
   [(.s, .const 0b1), (.pm, .expr pm.toNat), (.pg, .expr pg.idx.toNat), (.pn, .expr pn.toNat),
    (.b, .const 0b1), (.pd, .expr pd.toNat)]⟩

/-- R298 `brkpbs`: BRKPBS (propagate break from previous partition, break before first true, setting the condition flags). -/
def execBrkpbs (pd : PReg) (pg : GovPred) (pn pm : PReg) (s : State) : Result :=
  perform .brkpbs [requireStyle [Style.zeroing] pg]
    (placeBrkpbs pd pg pn pm) s

/-- R299, what the default table gives `brka`: format `PART_BREAK` (R119) and its fields. -/
def placeBrka (pd : PReg) (pg : GovPred) (pn : PReg) : Placement :=
  ⟨.partBreak,
   [(.b, .const 0b0), (.s, .const 0b0), (.pg, .expr pg.idx.toNat), (.pn, .expr pn.toNat),
    (.m, .expr (mergeBit pg)), (.pd, .expr pd.toNat)]⟩

/-- R299 `brka`: BRKA (break after first true condition). -/
def execBrka (pd : PReg) (pg : GovPred) (pn : PReg) (s : State) : Result :=
  perform .brka [requireStyle [Style.merging, Style.zeroing] pg]
    (placeBrka pd pg pn) s

/-- R300, what the default table gives `brkas`: format `PART_BREAK` (R119) and its fields. -/
def placeBrkas (pd : PReg) (pg : GovPred) (pn : PReg) : Placement :=
  ⟨.partBreak,
   [(.b, .const 0b0), (.s, .const 0b1), (.pg, .expr pg.idx.toNat), (.pn, .expr pn.toNat),
    (.m, .const 0b0), (.pd, .expr pd.toNat)]⟩

/-- R300 `brkas`: BRKAS (break after first true condition, setting the condition flags). -/
def execBrkas (pd : PReg) (pg : GovPred) (pn : PReg) (s : State) : Result :=
  perform .brkas [requireStyle [Style.zeroing] pg]
    (placeBrkas pd pg pn) s

/-- R301, what the default table gives `brkb`: format `PART_BREAK` (R119) and its fields. -/
def placeBrkb (pd : PReg) (pg : GovPred) (pn : PReg) : Placement :=
  ⟨.partBreak,
   [(.b, .const 0b1), (.s, .const 0b0), (.pg, .expr pg.idx.toNat), (.pn, .expr pn.toNat),
    (.m, .expr (mergeBit pg)), (.pd, .expr pd.toNat)]⟩

/-- R301 `brkb`: BRKB (break before first true condition). -/
def execBrkb (pd : PReg) (pg : GovPred) (pn : PReg) (s : State) : Result :=
  perform .brkb [requireStyle [Style.merging, Style.zeroing] pg]
    (placeBrkb pd pg pn) s

/-- R302, what the default table gives `brkbs`: format `PART_BREAK` (R119) and its fields. -/
def placeBrkbs (pd : PReg) (pg : GovPred) (pn : PReg) : Placement :=
  ⟨.partBreak,
   [(.b, .const 0b1), (.s, .const 0b1), (.pg, .expr pg.idx.toNat), (.pn, .expr pn.toNat),
    (.m, .const 0b0), (.pd, .expr pd.toNat)]⟩

/-- R302 `brkbs`: BRKBS (break before first true condition, setting the condition flags). -/
def execBrkbs (pd : PReg) (pg : GovPred) (pn : PReg) (s : State) : Result :=
  perform .brkbs [requireStyle [Style.zeroing] pg]
    (placeBrkbs pd pg pn) s

/-- R303, what the default table gives `brkn`: format `BRKN` (R120) and its fields. -/
def placeBrkn (pd : PReg) (pg : GovPred) (pn : PReg) : Placement :=
  ⟨.brkn, [(.s, .const 0b0), (.pg, .expr pg.idx.toNat), (.pn, .expr pn.toNat), (.pdm, .expr pd.toNat)]⟩

/-- R303 `brkn`: BRKN (propagate break to next partition). -/
def execBrkn (pd : PReg) (pg : GovPred) (pn pm : PReg) (s : State) : Result :=
  perform .brkn [requireStyle [Style.zeroing] pg, requireSame pd pm]
    (placeBrkn pd pg pn) s

/-- R304, what the default table gives `brkns`: format `BRKN` (R120) and its fields. -/
def placeBrkns (pd : PReg) (pg : GovPred) (pn : PReg) : Placement :=
  ⟨.brkn, [(.s, .const 0b1), (.pg, .expr pg.idx.toNat), (.pn, .expr pn.toNat), (.pdm, .expr pd.toNat)]⟩

/-- R304 `brkns`: BRKNS (propagate break to next partition, setting the condition flags). -/
def execBrkns (pd : PReg) (pg : GovPred) (pn pm : PReg) (s : State) : Result :=
  perform .brkns [requireStyle [Style.zeroing] pg, requireSame pd pm]
    (placeBrkns pd pg pn) s

/-- R305, what the default table gives `ptrue`: format `PTRUE` (R121) and its fields. -/
def placePtrue (size : ReqInt) (pd : PReg) (pattern : ReqInt) : Placement :=
  ⟨.ptrue,
   [(.size, .expr (sizecode size)), (.s, .const 0b0), (.pattern, .expr pattern.toNat),
    (.pd, .expr pd.toNat)]⟩

/-- R305 `ptrue`: PTRUE (initialise predicate from named constraint). -/
def execPtrue (size : ReqInt) (pd : PReg) (pattern : ReqInt) (s : State) : Result :=
  perform .ptrue [requireSize [8, 16, 32, 64] size, requireInterval 0 31 pattern]
    (placePtrue size pd pattern) s

/-- R306, what the default table gives `ptrues`: format `PTRUE` (R121) and its fields. -/
def placePtrues (size : ReqInt) (pd : PReg) (pattern : ReqInt) : Placement :=
  ⟨.ptrue,
   [(.size, .expr (sizecode size)), (.s, .const 0b1), (.pattern, .expr pattern.toNat),
    (.pd, .expr pd.toNat)]⟩

/-- R306 `ptrues`: PTRUES (initialise predicate from named constraint, setting the condition flags). -/
def execPtrues (size : ReqInt) (pd : PReg) (pattern : ReqInt) (s : State) : Result :=
  perform .ptrues [requireSize [8, 16, 32, 64] size, requireInterval 0 31 pattern]
    (placePtrues size pd pattern) s

/-- R307, what the default table gives `pfalse`: format `PFALSE` (R122) and its fields. -/
def placePfalse (pd : PReg) : Placement :=
  ⟨.pfalse, [(.pd, .expr pd.toNat)]⟩

/-- R307 `pfalse`: PFALSE (set all predicate elements to false). -/
def execPfalse (pd : PReg) (s : State) : Result :=
  perform .pfalse []
    (placePfalse pd) s

/-- R308, what the default table gives `ptest`: format `PTEST` (R123) and its fields. -/
def placePtest (pg : GovPred) (pn : PReg) : Placement :=
  ⟨.ptest, [(.pg, .expr pg.idx.toNat), (.pn, .expr pn.toNat)]⟩

/-- R308 `ptest`: PTEST (set condition flags for predicate). -/
def execPtest (pg : GovPred) (pn : PReg) (s : State) : Result :=
  perform .ptest [requireStyle [Style.plain] pg]
    (placePtest pg pn) s

/-- R309, what the default table gives `pfirst`: format `PFIRST` (R124) and its fields. -/
def placePfirst (pd : PReg) (pg : GovPred) : Placement :=
  ⟨.pfirst, [(.pg, .expr pg.idx.toNat), (.pdn, .expr pd.toNat)]⟩

/-- R309 `pfirst`: PFIRST (set the first active predicate element to true). -/
def execPfirst (pd : PReg) (pg : GovPred) (pn : PReg) (s : State) : Result :=
  perform .pfirst [requireStyle [Style.plain] pg, requireSame pd pn]
    (placePfirst pd pg) s

/-- R310, what the default table gives `pnext`: format `PNEXT` (R125) and its fields. -/
def placePnext (size : ReqInt) (pd : PReg) (pg : GovPred) : Placement :=
  ⟨.pnext, [(.size, .expr (sizecode size)), (.pg, .expr pg.idx.toNat), (.pdn, .expr pd.toNat)]⟩

/-- R310 `pnext`: PNEXT (find next active predicate). -/
def execPnext (size : ReqInt) (pd : PReg) (pg : GovPred) (pn : PReg) (s : State) : Result :=
  perform .pnext
    [requireSize [8, 16, 32, 64] size, requireStyle [Style.plain] pg, requireSame pd pn]
    (placePnext size pd pg) s

/-- R311, what the default table gives `rdffr_unpred`: format `RDFFR_UNPRED` (R126) and its fields. -/
def placeRdffrUnpred (pd : PReg) : Placement :=
  ⟨.rdffrUnpred, [(.pd, .expr pd.toNat)]⟩

/-- R311 `rdffr_unpred`: RDFFR (read the first-fault register, unpredicated). -/
def execRdffrUnpred (pd : PReg) (s : State) : Result :=
  perform .rdffrUnpred []
    (placeRdffrUnpred pd) s

/-- R312, what the default table gives `rdffr_pred`: format `RDFFR_PRED` (R127) and its fields. -/
def placeRdffrPred (pd : PReg) (pg : GovPred) : Placement :=
  ⟨.rdffrPred, [(.s, .const 0b0), (.pg, .expr pg.idx.toNat), (.pd, .expr pd.toNat)]⟩

/-- R312 `rdffr_pred`: RDFFR (read the first-fault register, predicated). -/
def execRdffrPred (pd : PReg) (pg : GovPred) (s : State) : Result :=
  perform .rdffrPred [requireStyle [Style.zeroing] pg]
    (placeRdffrPred pd pg) s

/-- R313, what the default table gives `rdffrs_pred`: format `RDFFR_PRED` (R127) and its fields. -/
def placeRdffrsPred (pd : PReg) (pg : GovPred) : Placement :=
  ⟨.rdffrPred, [(.s, .const 0b1), (.pg, .expr pg.idx.toNat), (.pd, .expr pd.toNat)]⟩

/-- R313 `rdffrs_pred`: RDFFRS (read the first-fault register, predicated, setting the condition flags). -/
def execRdffrsPred (pd : PReg) (pg : GovPred) (s : State) : Result :=
  perform .rdffrsPred [requireStyle [Style.zeroing] pg]
    (placeRdffrsPred pd pg) s

/-- R314, what the default table gives `setffr`: format `SETFFR` (R128) and its fields. -/
def placeSetffr : Placement :=
  ⟨.setffr, []⟩

/-- R314 `setffr`: SETFFR (initialise the first-fault register to all true). -/
def execSetffr (s : State) : Result :=
  perform .setffr []
    placeSetffr s

/-- R315, what the default table gives `wrffr`: format `WRFFR` (R129) and its fields. -/
def placeWrffr (pn : PReg) : Placement :=
  ⟨.wrffr, [(.pn, .expr pn.toNat)]⟩

/-- R315 `wrffr`: WRFFR (write the first-fault register). -/
def execWrffr (pn : PReg) (s : State) : Result :=
  perform .wrffr []
    (placeWrffr pn) s

end Sys2Proof.Machine
end

