-- ==== Sys2Proof/Machine/Shift.lean ====
section
/-! DEFINITION. The meanings of the operations of spec/47_shift.md (R394 to R417), one definition each:
the `require` lines in the order the rule writes them, and the word its packer builds from what the table gives its fields (R178). -/

namespace Sys2Proof.Machine

/-- R394, what the default table gives `asr_imm_pred`: format `SHIFT_IMM_PRED` (R138) and its fields. -/
def placeAsrImmPred (size : ReqInt) (zd : VReg) (pg : GovPred) (shift : ReqInt) : Placement :=
  let t := shiftFields size.toInt shift.toInt false
  ⟨.shiftImmPred,
   [(.tszh, .expr t.high.toNat), (.opc, .const 0b00), (.l, .const 0b0), (.u, .const 0b0),
    (.pg, .expr pg.idx.toNat), (.tszl, .expr t.low.toNat), (.imm3, .expr t.res.toNat),
    (.zdn, .expr zd.toNat)]⟩

/-- R394 `asr_imm_pred`: ASR (arithmetic shift right by immediate, predicated). -/
def execAsrImmPred (size : ReqInt) (zd : VReg) (pg : GovPred) (zn : VReg) (shift : ReqInt) (s : State) : Result :=
  perform .asrImmPred
    [requireSize [8, 16, 32, 64] size,
     requireLowPredicate pg,
     requireStyle [Style.merging] pg,
     requireSame zd zn,
     requireRightShift size.toInt shift]
    (placeAsrImmPred size zd pg shift) s

/-- R395, what the default table gives `lsr_imm_pred`: format `SHIFT_IMM_PRED` (R138) and its fields. -/
def placeLsrImmPred (size : ReqInt) (zd : VReg) (pg : GovPred) (shift : ReqInt) : Placement :=
  let t := shiftFields size.toInt shift.toInt false
  ⟨.shiftImmPred,
   [(.tszh, .expr t.high.toNat), (.opc, .const 0b00), (.l, .const 0b0), (.u, .const 0b1),
    (.pg, .expr pg.idx.toNat), (.tszl, .expr t.low.toNat), (.imm3, .expr t.res.toNat),
    (.zdn, .expr zd.toNat)]⟩

/-- R395 `lsr_imm_pred`: LSR (logical shift right by immediate, predicated). -/
def execLsrImmPred (size : ReqInt) (zd : VReg) (pg : GovPred) (zn : VReg) (shift : ReqInt) (s : State) : Result :=
  perform .lsrImmPred
    [requireSize [8, 16, 32, 64] size,
     requireLowPredicate pg,
     requireStyle [Style.merging] pg,
     requireSame zd zn,
     requireRightShift size.toInt shift]
    (placeLsrImmPred size zd pg shift) s

/-- R396, what the default table gives `lsl_imm_pred`: format `SHIFT_IMM_PRED` (R138) and its fields. -/
def placeLslImmPred (size : ReqInt) (zd : VReg) (pg : GovPred) (shift : ReqInt) : Placement :=
  let t := shiftFields size.toInt shift.toInt true
  ⟨.shiftImmPred,
   [(.tszh, .expr t.high.toNat), (.opc, .const 0b00), (.l, .const 0b1), (.u, .const 0b1),
    (.pg, .expr pg.idx.toNat), (.tszl, .expr t.low.toNat), (.imm3, .expr t.res.toNat),
    (.zdn, .expr zd.toNat)]⟩

/-- R396 `lsl_imm_pred`: LSL (logical shift left by immediate, predicated). -/
def execLslImmPred (size : ReqInt) (zd : VReg) (pg : GovPred) (zn : VReg) (shift : ReqInt) (s : State) : Result :=
  perform .lslImmPred
    [requireSize [8, 16, 32, 64] size,
     requireLowPredicate pg,
     requireStyle [Style.merging] pg,
     requireSame zd zn,
     requireLeftShift size.toInt shift]
    (placeLslImmPred size zd pg shift) s

/-- R397, what the default table gives `asrd_imm_pred`: format `SHIFT_IMM_PRED` (R138) and its fields. -/
def placeAsrdImmPred (size : ReqInt) (zd : VReg) (pg : GovPred) (shift : ReqInt) : Placement :=
  let t := shiftFields size.toInt shift.toInt false
  ⟨.shiftImmPred,
   [(.tszh, .expr t.high.toNat), (.opc, .const 0b01), (.l, .const 0b0), (.u, .const 0b0),
    (.pg, .expr pg.idx.toNat), (.tszl, .expr t.low.toNat), (.imm3, .expr t.res.toNat),
    (.zdn, .expr zd.toNat)]⟩

/-- R397 `asrd_imm_pred`: ASRD (arithmetic shift right for divide by immediate, predicated). -/
def execAsrdImmPred (size : ReqInt) (zd : VReg) (pg : GovPred) (zn : VReg) (shift : ReqInt) (s : State) : Result :=
  perform .asrdImmPred
    [requireSize [8, 16, 32, 64] size,
     requireLowPredicate pg,
     requireStyle [Style.merging] pg,
     requireSame zd zn,
     requireRightShift size.toInt shift]
    (placeAsrdImmPred size zd pg shift) s

/-- R398, what the default table gives `sqshl_imm_pred`: format `SHIFT_IMM_PRED` (R138) and its fields. -/
def placeSqshlImmPred (size : ReqInt) (zd : VReg) (pg : GovPred) (shift : ReqInt) : Placement :=
  let t := shiftFields size.toInt shift.toInt true
  ⟨.shiftImmPred,
   [(.tszh, .expr t.high.toNat), (.opc, .const 0b01), (.l, .const 0b1), (.u, .const 0b0),
    (.pg, .expr pg.idx.toNat), (.tszl, .expr t.low.toNat), (.imm3, .expr t.res.toNat),
    (.zdn, .expr zd.toNat)]⟩

/-- R398 `sqshl_imm_pred`: SQSHL (signed saturating shift left by immediate, predicated). -/
def execSqshlImmPred (size : ReqInt) (zd : VReg) (pg : GovPred) (zn : VReg) (shift : ReqInt) (s : State) : Result :=
  perform .sqshlImmPred
    [requireSize [8, 16, 32, 64] size,
     requireLowPredicate pg,
     requireStyle [Style.merging] pg,
     requireSame zd zn,
     requireLeftShift size.toInt shift]
    (placeSqshlImmPred size zd pg shift) s

/-- R399, what the default table gives `uqshl_imm_pred`: format `SHIFT_IMM_PRED` (R138) and its fields. -/
def placeUqshlImmPred (size : ReqInt) (zd : VReg) (pg : GovPred) (shift : ReqInt) : Placement :=
  let t := shiftFields size.toInt shift.toInt true
  ⟨.shiftImmPred,
   [(.tszh, .expr t.high.toNat), (.opc, .const 0b01), (.l, .const 0b1), (.u, .const 0b1),
    (.pg, .expr pg.idx.toNat), (.tszl, .expr t.low.toNat), (.imm3, .expr t.res.toNat),
    (.zdn, .expr zd.toNat)]⟩

/-- R399 `uqshl_imm_pred`: UQSHL (unsigned saturating shift left by immediate, predicated). -/
def execUqshlImmPred (size : ReqInt) (zd : VReg) (pg : GovPred) (zn : VReg) (shift : ReqInt) (s : State) : Result :=
  perform .uqshlImmPred
    [requireSize [8, 16, 32, 64] size,
     requireLowPredicate pg,
     requireStyle [Style.merging] pg,
     requireSame zd zn,
     requireLeftShift size.toInt shift]
    (placeUqshlImmPred size zd pg shift) s

/-- R400, what the default table gives `srshr_imm_pred`: format `SHIFT_IMM_PRED` (R138) and its fields. -/
def placeSrshrImmPred (size : ReqInt) (zd : VReg) (pg : GovPred) (shift : ReqInt) : Placement :=
  let t := shiftFields size.toInt shift.toInt false
  ⟨.shiftImmPred,
   [(.tszh, .expr t.high.toNat), (.opc, .const 0b11), (.l, .const 0b0), (.u, .const 0b0),
    (.pg, .expr pg.idx.toNat), (.tszl, .expr t.low.toNat), (.imm3, .expr t.res.toNat),
    (.zdn, .expr zd.toNat)]⟩

/-- R400 `srshr_imm_pred`: SRSHR (signed rounding shift right by immediate, predicated). -/
def execSrshrImmPred (size : ReqInt) (zd : VReg) (pg : GovPred) (zn : VReg) (shift : ReqInt) (s : State) : Result :=
  perform .srshrImmPred
    [requireSize [8, 16, 32, 64] size,
     requireLowPredicate pg,
     requireStyle [Style.merging] pg,
     requireSame zd zn,
     requireRightShift size.toInt shift]
    (placeSrshrImmPred size zd pg shift) s

/-- R401, what the default table gives `urshr_imm_pred`: format `SHIFT_IMM_PRED` (R138) and its fields. -/
def placeUrshrImmPred (size : ReqInt) (zd : VReg) (pg : GovPred) (shift : ReqInt) : Placement :=
  let t := shiftFields size.toInt shift.toInt false
  ⟨.shiftImmPred,
   [(.tszh, .expr t.high.toNat), (.opc, .const 0b11), (.l, .const 0b0), (.u, .const 0b1),
    (.pg, .expr pg.idx.toNat), (.tszl, .expr t.low.toNat), (.imm3, .expr t.res.toNat),
    (.zdn, .expr zd.toNat)]⟩

/-- R401 `urshr_imm_pred`: URSHR (unsigned rounding shift right by immediate, predicated). -/
def execUrshrImmPred (size : ReqInt) (zd : VReg) (pg : GovPred) (zn : VReg) (shift : ReqInt) (s : State) : Result :=
  perform .urshrImmPred
    [requireSize [8, 16, 32, 64] size,
     requireLowPredicate pg,
     requireStyle [Style.merging] pg,
     requireSame zd zn,
     requireRightShift size.toInt shift]
    (placeUrshrImmPred size zd pg shift) s

/-- R402, what the default table gives `sqshlu_imm_pred`: format `SHIFT_IMM_PRED` (R138) and its fields. -/
def placeSqshluImmPred (size : ReqInt) (zd : VReg) (pg : GovPred) (shift : ReqInt) : Placement :=
  let t := shiftFields size.toInt shift.toInt true
  ⟨.shiftImmPred,
   [(.tszh, .expr t.high.toNat), (.opc, .const 0b11), (.l, .const 0b1), (.u, .const 0b1),
    (.pg, .expr pg.idx.toNat), (.tszl, .expr t.low.toNat), (.imm3, .expr t.res.toNat),
    (.zdn, .expr zd.toNat)]⟩

/-- R402 `sqshlu_imm_pred`: SQSHLU (signed saturating shift left unsigned by immediate, predicated). -/
def execSqshluImmPred (size : ReqInt) (zd : VReg) (pg : GovPred) (zn : VReg) (shift : ReqInt) (s : State) : Result :=
  perform .sqshluImmPred
    [requireSize [8, 16, 32, 64] size,
     requireLowPredicate pg,
     requireStyle [Style.merging] pg,
     requireSame zd zn,
     requireLeftShift size.toInt shift]
    (placeSqshluImmPred size zd pg shift) s

/-- R403, what the default table gives `asr_imm_unpred`: format `SHIFT_IMM_UNPRED` (R139) and its fields. -/
def placeAsrImmUnpred (size : ReqInt) (zd zn : VReg) (shift : ReqInt) : Placement :=
  let t := shiftFields size.toInt shift.toInt false
  ⟨.shiftImmUnpred,
   [(.tszh, .expr t.high.toNat), (.tszl, .expr t.low.toNat), (.imm3, .expr t.res.toNat),
    (.opc, .const 0b00), (.zn, .expr zn.toNat), (.zd, .expr zd.toNat)]⟩

/-- R403 `asr_imm_unpred`: ASR (arithmetic shift right by immediate, unpredicated). -/
def execAsrImmUnpred (size : ReqInt) (zd zn : VReg) (shift : ReqInt) (s : State) : Result :=
  perform .asrImmUnpred [requireSize [8, 16, 32, 64] size, requireRightShift size.toInt shift]
    (placeAsrImmUnpred size zd zn shift) s

/-- R404, what the default table gives `lsr_imm_unpred`: format `SHIFT_IMM_UNPRED` (R139) and its fields. -/
def placeLsrImmUnpred (size : ReqInt) (zd zn : VReg) (shift : ReqInt) : Placement :=
  let t := shiftFields size.toInt shift.toInt false
  ⟨.shiftImmUnpred,
   [(.tszh, .expr t.high.toNat), (.tszl, .expr t.low.toNat), (.imm3, .expr t.res.toNat),
    (.opc, .const 0b01), (.zn, .expr zn.toNat), (.zd, .expr zd.toNat)]⟩

/-- R404 `lsr_imm_unpred`: LSR (logical shift right by immediate, unpredicated). -/
def execLsrImmUnpred (size : ReqInt) (zd zn : VReg) (shift : ReqInt) (s : State) : Result :=
  perform .lsrImmUnpred [requireSize [8, 16, 32, 64] size, requireRightShift size.toInt shift]
    (placeLsrImmUnpred size zd zn shift) s

/-- R405, what the default table gives `lsl_imm_unpred`: format `SHIFT_IMM_UNPRED` (R139) and its fields. -/
def placeLslImmUnpred (size : ReqInt) (zd zn : VReg) (shift : ReqInt) : Placement :=
  let t := shiftFields size.toInt shift.toInt true
  ⟨.shiftImmUnpred,
   [(.tszh, .expr t.high.toNat), (.tszl, .expr t.low.toNat), (.imm3, .expr t.res.toNat),
    (.opc, .const 0b11), (.zn, .expr zn.toNat), (.zd, .expr zd.toNat)]⟩

/-- R405 `lsl_imm_unpred`: LSL (logical shift left by immediate, unpredicated). -/
def execLslImmUnpred (size : ReqInt) (zd zn : VReg) (shift : ReqInt) (s : State) : Result :=
  perform .lslImmUnpred [requireSize [8, 16, 32, 64] size, requireLeftShift size.toInt shift]
    (placeLslImmUnpred size zd zn shift) s

/-- R406, what the default table gives `asr_vec_pred`: format `SHIFT_VEC_PRED` (R140) and its fields. -/
def placeAsrVecPred (size : ReqInt) (zd : VReg) (pg : GovPred) (zm : VReg) : Placement :=
  ⟨.shiftVecPred,
   [(.size, .expr (sizecode size)), (.r, .const 0b0), (.l, .const 0b0), (.u, .const 0b0),
    (.pg, .expr pg.idx.toNat), (.zm, .expr zm.toNat), (.zdn, .expr zd.toNat)]⟩

/-- R406 `asr_vec_pred`: ASR (arithmetic shift right by vector, predicated). -/
def execAsrVecPred (size : ReqInt) (zd : VReg) (pg : GovPred) (zn zm : VReg) (s : State) : Result :=
  perform .asrVecPred
    [requireSize [8, 16, 32, 64] size,
     requireLowPredicate pg,
     requireStyle [Style.merging] pg,
     requireSame zd zn]
    (placeAsrVecPred size zd pg zm) s

/-- R407, what the default table gives `lsr_vec_pred`: format `SHIFT_VEC_PRED` (R140) and its fields. -/
def placeLsrVecPred (size : ReqInt) (zd : VReg) (pg : GovPred) (zm : VReg) : Placement :=
  ⟨.shiftVecPred,
   [(.size, .expr (sizecode size)), (.r, .const 0b0), (.l, .const 0b0), (.u, .const 0b1),
    (.pg, .expr pg.idx.toNat), (.zm, .expr zm.toNat), (.zdn, .expr zd.toNat)]⟩

/-- R407 `lsr_vec_pred`: LSR (logical shift right by vector, predicated). -/
def execLsrVecPred (size : ReqInt) (zd : VReg) (pg : GovPred) (zn zm : VReg) (s : State) : Result :=
  perform .lsrVecPred
    [requireSize [8, 16, 32, 64] size,
     requireLowPredicate pg,
     requireStyle [Style.merging] pg,
     requireSame zd zn]
    (placeLsrVecPred size zd pg zm) s

/-- R408, what the default table gives `lsl_vec_pred`: format `SHIFT_VEC_PRED` (R140) and its fields. -/
def placeLslVecPred (size : ReqInt) (zd : VReg) (pg : GovPred) (zm : VReg) : Placement :=
  ⟨.shiftVecPred,
   [(.size, .expr (sizecode size)), (.r, .const 0b0), (.l, .const 0b1), (.u, .const 0b1),
    (.pg, .expr pg.idx.toNat), (.zm, .expr zm.toNat), (.zdn, .expr zd.toNat)]⟩

/-- R408 `lsl_vec_pred`: LSL (logical shift left by vector, predicated). -/
def execLslVecPred (size : ReqInt) (zd : VReg) (pg : GovPred) (zn zm : VReg) (s : State) : Result :=
  perform .lslVecPred
    [requireSize [8, 16, 32, 64] size,
     requireLowPredicate pg,
     requireStyle [Style.merging] pg,
     requireSame zd zn]
    (placeLslVecPred size zd pg zm) s

/-- R409, what the default table gives `asrr_vec_pred`: format `SHIFT_VEC_PRED` (R140) and its fields. -/
def placeAsrrVecPred (size : ReqInt) (zd : VReg) (pg : GovPred) (zm : VReg) : Placement :=
  ⟨.shiftVecPred,
   [(.size, .expr (sizecode size)), (.r, .const 0b1), (.l, .const 0b0), (.u, .const 0b0),
    (.pg, .expr pg.idx.toNat), (.zm, .expr zm.toNat), (.zdn, .expr zd.toNat)]⟩

/-- R409 `asrr_vec_pred`: ASRR (reversed arithmetic shift right by vector, predicated). -/
def execAsrrVecPred (size : ReqInt) (zd : VReg) (pg : GovPred) (zn zm : VReg) (s : State) : Result :=
  perform .asrrVecPred
    [requireSize [8, 16, 32, 64] size,
     requireLowPredicate pg,
     requireStyle [Style.merging] pg,
     requireSame zd zn]
    (placeAsrrVecPred size zd pg zm) s

/-- R410, what the default table gives `lsrr_vec_pred`: format `SHIFT_VEC_PRED` (R140) and its fields. -/
def placeLsrrVecPred (size : ReqInt) (zd : VReg) (pg : GovPred) (zm : VReg) : Placement :=
  ⟨.shiftVecPred,
   [(.size, .expr (sizecode size)), (.r, .const 0b1), (.l, .const 0b0), (.u, .const 0b1),
    (.pg, .expr pg.idx.toNat), (.zm, .expr zm.toNat), (.zdn, .expr zd.toNat)]⟩

/-- R410 `lsrr_vec_pred`: LSRR (reversed logical shift right by vector, predicated). -/
def execLsrrVecPred (size : ReqInt) (zd : VReg) (pg : GovPred) (zn zm : VReg) (s : State) : Result :=
  perform .lsrrVecPred
    [requireSize [8, 16, 32, 64] size,
     requireLowPredicate pg,
     requireStyle [Style.merging] pg,
     requireSame zd zn]
    (placeLsrrVecPred size zd pg zm) s

/-- R411, what the default table gives `lslr_vec_pred`: format `SHIFT_VEC_PRED` (R140) and its fields. -/
def placeLslrVecPred (size : ReqInt) (zd : VReg) (pg : GovPred) (zm : VReg) : Placement :=
  ⟨.shiftVecPred,
   [(.size, .expr (sizecode size)), (.r, .const 0b1), (.l, .const 0b1), (.u, .const 0b1),
    (.pg, .expr pg.idx.toNat), (.zm, .expr zm.toNat), (.zdn, .expr zd.toNat)]⟩

/-- R411 `lslr_vec_pred`: LSLR (reversed logical shift left by vector, predicated). -/
def execLslrVecPred (size : ReqInt) (zd : VReg) (pg : GovPred) (zn zm : VReg) (s : State) : Result :=
  perform .lslrVecPred
    [requireSize [8, 16, 32, 64] size,
     requireLowPredicate pg,
     requireStyle [Style.merging] pg,
     requireSame zd zn]
    (placeLslrVecPred size zd pg zm) s

/-- R412, what the default table gives `asr_wide_pred`: format `SHIFT_WIDE_PRED` (R141) and its fields. -/
def placeAsrWidePred (size : ReqInt) (zd : VReg) (pg : GovPred) (zm : VReg) : Placement :=
  ⟨.shiftWidePred,
   [(.size, .expr (sizecode size)), (.l, .const 0b0), (.u, .const 0b0), (.pg, .expr pg.idx.toNat),
    (.zm, .expr zm.toNat), (.zdn, .expr zd.toNat)]⟩

/-- R412 `asr_wide_pred`: ASR (arithmetic shift right by 64-bit wide elements, predicated). -/
def execAsrWidePred (size : ReqInt) (zd : VReg) (pg : GovPred) (zn zm : VReg) (s : State) : Result :=
  perform .asrWidePred
    [requireSize [8, 16, 32] size,
     requireLowPredicate pg,
     requireStyle [Style.merging] pg,
     requireSame zd zn]
    (placeAsrWidePred size zd pg zm) s

/-- R413, what the default table gives `lsr_wide_pred`: format `SHIFT_WIDE_PRED` (R141) and its fields. -/
def placeLsrWidePred (size : ReqInt) (zd : VReg) (pg : GovPred) (zm : VReg) : Placement :=
  ⟨.shiftWidePred,
   [(.size, .expr (sizecode size)), (.l, .const 0b0), (.u, .const 0b1), (.pg, .expr pg.idx.toNat),
    (.zm, .expr zm.toNat), (.zdn, .expr zd.toNat)]⟩

/-- R413 `lsr_wide_pred`: LSR (logical shift right by 64-bit wide elements, predicated). -/
def execLsrWidePred (size : ReqInt) (zd : VReg) (pg : GovPred) (zn zm : VReg) (s : State) : Result :=
  perform .lsrWidePred
    [requireSize [8, 16, 32] size,
     requireLowPredicate pg,
     requireStyle [Style.merging] pg,
     requireSame zd zn]
    (placeLsrWidePred size zd pg zm) s

/-- R414, what the default table gives `lsl_wide_pred`: format `SHIFT_WIDE_PRED` (R141) and its fields. -/
def placeLslWidePred (size : ReqInt) (zd : VReg) (pg : GovPred) (zm : VReg) : Placement :=
  ⟨.shiftWidePred,
   [(.size, .expr (sizecode size)), (.l, .const 0b1), (.u, .const 0b1), (.pg, .expr pg.idx.toNat),
    (.zm, .expr zm.toNat), (.zdn, .expr zd.toNat)]⟩

/-- R414 `lsl_wide_pred`: LSL (logical shift left by 64-bit wide elements, predicated). -/
def execLslWidePred (size : ReqInt) (zd : VReg) (pg : GovPred) (zn zm : VReg) (s : State) : Result :=
  perform .lslWidePred
    [requireSize [8, 16, 32] size,
     requireLowPredicate pg,
     requireStyle [Style.merging] pg,
     requireSame zd zn]
    (placeLslWidePred size zd pg zm) s

/-- R415, what the default table gives `asr_wide_unpred`: format `SHIFT_WIDE_UNPRED` (R142) and its fields. -/
def placeAsrWideUnpred (size : ReqInt) (zd zn zm : VReg) : Placement :=
  ⟨.shiftWideUnpred,
   [(.size, .expr (sizecode size)), (.zm, .expr zm.toNat), (.opc, .const 0b00), (.zn, .expr zn.toNat),
    (.zd, .expr zd.toNat)]⟩

/-- R415 `asr_wide_unpred`: ASR (arithmetic shift right by 64-bit wide elements, unpredicated). -/
def execAsrWideUnpred (size : ReqInt) (zd zn zm : VReg) (s : State) : Result :=
  perform .asrWideUnpred [requireSize [8, 16, 32] size]
    (placeAsrWideUnpred size zd zn zm) s

/-- R416, what the default table gives `lsr_wide_unpred`: format `SHIFT_WIDE_UNPRED` (R142) and its fields. -/
def placeLsrWideUnpred (size : ReqInt) (zd zn zm : VReg) : Placement :=
  ⟨.shiftWideUnpred,
   [(.size, .expr (sizecode size)), (.zm, .expr zm.toNat), (.opc, .const 0b01), (.zn, .expr zn.toNat),
    (.zd, .expr zd.toNat)]⟩

/-- R416 `lsr_wide_unpred`: LSR (logical shift right by 64-bit wide elements, unpredicated). -/
def execLsrWideUnpred (size : ReqInt) (zd zn zm : VReg) (s : State) : Result :=
  perform .lsrWideUnpred [requireSize [8, 16, 32] size]
    (placeLsrWideUnpred size zd zn zm) s

/-- R417, what the default table gives `lsl_wide_unpred`: format `SHIFT_WIDE_UNPRED` (R142) and its fields. -/
def placeLslWideUnpred (size : ReqInt) (zd zn zm : VReg) : Placement :=
  ⟨.shiftWideUnpred,
   [(.size, .expr (sizecode size)), (.zm, .expr zm.toNat), (.opc, .const 0b11), (.zn, .expr zn.toNat),
    (.zd, .expr zd.toNat)]⟩

/-- R417 `lsl_wide_unpred`: LSL (logical shift left by 64-bit wide elements, unpredicated). -/
def execLslWideUnpred (size : ReqInt) (zd zn zm : VReg) (s : State) : Result :=
  perform .lslWideUnpred [requireSize [8, 16, 32] size]
    (placeLslWideUnpred size zd zn zm) s

end Sys2Proof.Machine
end

