-- ==== Sys2Proof/Machine/StructuredLoad.lean ====
section
/-! DEFINITION. The meanings of the operations of spec/46_loadstore_structured_ld.md (R343 to R366), one definition each:
the `require` lines in the order the rule writes them, and the word its packer builds from what the table gives its fields (R178). -/

namespace Sys2Proof.Machine

/-- R343, what the default table gives `ld2b_ss`: format `LDN_SS` (R134) and its fields. -/
def placeLd2bSs (zt1 : VReg) (pg : GovPred) (rn rm : XReg) : Placement :=
  ⟨.ldnSs,
   [(.msz, .const 0b00), (.opc, .const 0b01), (.rm, .expr rm.toNat), (.pg, .expr pg.idx.toNat),
    (.rn, .expr rn.toNat), (.zt, .expr zt1.toNat)]⟩

/-- R343 `ld2b_ss`: LD2B (load 2-element structures of bytes to 2 vectors, scalar base plus scalar index). -/
def execLd2bSs (zt1 zt2 : VReg) (pg : GovPred) (rn rm : XReg) (s : State) : Result :=
  perform .ld2bSs
    [requireLowPredicate pg, requireStyle [Style.zeroing] pg, requireSequence zt1 [zt2]]
    (placeLd2bSs zt1 pg rn rm) s

/-- R344, what the default table gives `ld2b_si`: format `LDN_SI` (R135) and its fields. -/
def placeLd2bSi (zt1 : VReg) (pg : GovPred) (rn : XReg) (imm : ReqInt) : Placement :=
  ⟨.ldnSi,
   [(.msz, .const 0b00), (.opc, .const 0b01), (.imm4, .expr (scaledField imm 2)),
    (.pg, .expr pg.idx.toNat), (.rn, .expr rn.toNat), (.zt, .expr zt1.toNat)]⟩

/-- R344 `ld2b_si`: LD2B (load 2-element structures of bytes to 2 vectors, scalar base plus immediate (in vector lengths)). -/
def execLd2bSi (zt1 zt2 : VReg) (pg : GovPred) (rn : XReg) (imm : ReqInt) (s : State) : Result :=
  perform .ld2bSi
    [requireLowPredicate pg,
     requireStyle [Style.zeroing] pg,
     requireInterval (-16) 14 imm,
     requireSequence zt1 [zt2],
     requireMultiple 2 imm]
    (placeLd2bSi zt1 pg rn imm) s

/-- R345, what the default table gives `ld2h_ss`: format `LDN_SS` (R134) and its fields. -/
def placeLd2hSs (zt1 : VReg) (pg : GovPred) (rn rm : XReg) : Placement :=
  ⟨.ldnSs,
   [(.msz, .const 0b01), (.opc, .const 0b01), (.rm, .expr rm.toNat), (.pg, .expr pg.idx.toNat),
    (.rn, .expr rn.toNat), (.zt, .expr zt1.toNat)]⟩

/-- R345 `ld2h_ss`: LD2H (load 2-element structures of halfwords to 2 vectors, scalar base plus scalar index). -/
def execLd2hSs (zt1 zt2 : VReg) (pg : GovPred) (rn rm : XReg) (s : State) : Result :=
  perform .ld2hSs
    [requireLowPredicate pg, requireStyle [Style.zeroing] pg, requireSequence zt1 [zt2]]
    (placeLd2hSs zt1 pg rn rm) s

/-- R346, what the default table gives `ld2h_si`: format `LDN_SI` (R135) and its fields. -/
def placeLd2hSi (zt1 : VReg) (pg : GovPred) (rn : XReg) (imm : ReqInt) : Placement :=
  ⟨.ldnSi,
   [(.msz, .const 0b01), (.opc, .const 0b01), (.imm4, .expr (scaledField imm 2)),
    (.pg, .expr pg.idx.toNat), (.rn, .expr rn.toNat), (.zt, .expr zt1.toNat)]⟩

/-- R346 `ld2h_si`: LD2H (load 2-element structures of halfwords to 2 vectors, scalar base plus immediate (in vector lengths)). -/
def execLd2hSi (zt1 zt2 : VReg) (pg : GovPred) (rn : XReg) (imm : ReqInt) (s : State) : Result :=
  perform .ld2hSi
    [requireLowPredicate pg,
     requireStyle [Style.zeroing] pg,
     requireInterval (-16) 14 imm,
     requireSequence zt1 [zt2],
     requireMultiple 2 imm]
    (placeLd2hSi zt1 pg rn imm) s

/-- R347, what the default table gives `ld2w_ss`: format `LDN_SS` (R134) and its fields. -/
def placeLd2wSs (zt1 : VReg) (pg : GovPred) (rn rm : XReg) : Placement :=
  ⟨.ldnSs,
   [(.msz, .const 0b10), (.opc, .const 0b01), (.rm, .expr rm.toNat), (.pg, .expr pg.idx.toNat),
    (.rn, .expr rn.toNat), (.zt, .expr zt1.toNat)]⟩

/-- R347 `ld2w_ss`: LD2W (load 2-element structures of words to 2 vectors, scalar base plus scalar index). -/
def execLd2wSs (zt1 zt2 : VReg) (pg : GovPred) (rn rm : XReg) (s : State) : Result :=
  perform .ld2wSs
    [requireLowPredicate pg, requireStyle [Style.zeroing] pg, requireSequence zt1 [zt2]]
    (placeLd2wSs zt1 pg rn rm) s

/-- R348, what the default table gives `ld2w_si`: format `LDN_SI` (R135) and its fields. -/
def placeLd2wSi (zt1 : VReg) (pg : GovPred) (rn : XReg) (imm : ReqInt) : Placement :=
  ⟨.ldnSi,
   [(.msz, .const 0b10), (.opc, .const 0b01), (.imm4, .expr (scaledField imm 2)),
    (.pg, .expr pg.idx.toNat), (.rn, .expr rn.toNat), (.zt, .expr zt1.toNat)]⟩

/-- R348 `ld2w_si`: LD2W (load 2-element structures of words to 2 vectors, scalar base plus immediate (in vector lengths)). -/
def execLd2wSi (zt1 zt2 : VReg) (pg : GovPred) (rn : XReg) (imm : ReqInt) (s : State) : Result :=
  perform .ld2wSi
    [requireLowPredicate pg,
     requireStyle [Style.zeroing] pg,
     requireInterval (-16) 14 imm,
     requireSequence zt1 [zt2],
     requireMultiple 2 imm]
    (placeLd2wSi zt1 pg rn imm) s

/-- R349, what the default table gives `ld2d_ss`: format `LDN_SS` (R134) and its fields. -/
def placeLd2dSs (zt1 : VReg) (pg : GovPred) (rn rm : XReg) : Placement :=
  ⟨.ldnSs,
   [(.msz, .const 0b11), (.opc, .const 0b01), (.rm, .expr rm.toNat), (.pg, .expr pg.idx.toNat),
    (.rn, .expr rn.toNat), (.zt, .expr zt1.toNat)]⟩

/-- R349 `ld2d_ss`: LD2D (load 2-element structures of doublewords to 2 vectors, scalar base plus scalar index). -/
def execLd2dSs (zt1 zt2 : VReg) (pg : GovPred) (rn rm : XReg) (s : State) : Result :=
  perform .ld2dSs
    [requireLowPredicate pg, requireStyle [Style.zeroing] pg, requireSequence zt1 [zt2]]
    (placeLd2dSs zt1 pg rn rm) s

/-- R350, what the default table gives `ld2d_si`: format `LDN_SI` (R135) and its fields. -/
def placeLd2dSi (zt1 : VReg) (pg : GovPred) (rn : XReg) (imm : ReqInt) : Placement :=
  ⟨.ldnSi,
   [(.msz, .const 0b11), (.opc, .const 0b01), (.imm4, .expr (scaledField imm 2)),
    (.pg, .expr pg.idx.toNat), (.rn, .expr rn.toNat), (.zt, .expr zt1.toNat)]⟩

/-- R350 `ld2d_si`: LD2D (load 2-element structures of doublewords to 2 vectors, scalar base plus immediate (in vector lengths)). -/
def execLd2dSi (zt1 zt2 : VReg) (pg : GovPred) (rn : XReg) (imm : ReqInt) (s : State) : Result :=
  perform .ld2dSi
    [requireLowPredicate pg,
     requireStyle [Style.zeroing] pg,
     requireInterval (-16) 14 imm,
     requireSequence zt1 [zt2],
     requireMultiple 2 imm]
    (placeLd2dSi zt1 pg rn imm) s

/-- R351, what the default table gives `ld3b_ss`: format `LDN_SS` (R134) and its fields. -/
def placeLd3bSs (zt1 : VReg) (pg : GovPred) (rn rm : XReg) : Placement :=
  ⟨.ldnSs,
   [(.msz, .const 0b00), (.opc, .const 0b10), (.rm, .expr rm.toNat), (.pg, .expr pg.idx.toNat),
    (.rn, .expr rn.toNat), (.zt, .expr zt1.toNat)]⟩

/-- R351 `ld3b_ss`: LD3B (load 3-element structures of bytes to 3 vectors, scalar base plus scalar index). -/
def execLd3bSs (zt1 zt2 zt3 : VReg) (pg : GovPred) (rn rm : XReg) (s : State) : Result :=
  perform .ld3bSs
    [requireLowPredicate pg, requireStyle [Style.zeroing] pg, requireSequence zt1 [zt2, zt3]]
    (placeLd3bSs zt1 pg rn rm) s

/-- R352, what the default table gives `ld3b_si`: format `LDN_SI` (R135) and its fields. -/
def placeLd3bSi (zt1 : VReg) (pg : GovPred) (rn : XReg) (imm : ReqInt) : Placement :=
  ⟨.ldnSi,
   [(.msz, .const 0b00), (.opc, .const 0b10), (.imm4, .expr (scaledField imm 3)),
    (.pg, .expr pg.idx.toNat), (.rn, .expr rn.toNat), (.zt, .expr zt1.toNat)]⟩

/-- R352 `ld3b_si`: LD3B (load 3-element structures of bytes to 3 vectors, scalar base plus immediate (in vector lengths)). -/
def execLd3bSi (zt1 zt2 zt3 : VReg) (pg : GovPred) (rn : XReg) (imm : ReqInt) (s : State) : Result :=
  perform .ld3bSi
    [requireLowPredicate pg,
     requireStyle [Style.zeroing] pg,
     requireInterval (-24) 21 imm,
     requireSequence zt1 [zt2, zt3],
     requireMultiple 3 imm]
    (placeLd3bSi zt1 pg rn imm) s

/-- R353, what the default table gives `ld3h_ss`: format `LDN_SS` (R134) and its fields. -/
def placeLd3hSs (zt1 : VReg) (pg : GovPred) (rn rm : XReg) : Placement :=
  ⟨.ldnSs,
   [(.msz, .const 0b01), (.opc, .const 0b10), (.rm, .expr rm.toNat), (.pg, .expr pg.idx.toNat),
    (.rn, .expr rn.toNat), (.zt, .expr zt1.toNat)]⟩

/-- R353 `ld3h_ss`: LD3H (load 3-element structures of halfwords to 3 vectors, scalar base plus scalar index). -/
def execLd3hSs (zt1 zt2 zt3 : VReg) (pg : GovPred) (rn rm : XReg) (s : State) : Result :=
  perform .ld3hSs
    [requireLowPredicate pg, requireStyle [Style.zeroing] pg, requireSequence zt1 [zt2, zt3]]
    (placeLd3hSs zt1 pg rn rm) s

/-- R354, what the default table gives `ld3h_si`: format `LDN_SI` (R135) and its fields. -/
def placeLd3hSi (zt1 : VReg) (pg : GovPred) (rn : XReg) (imm : ReqInt) : Placement :=
  ⟨.ldnSi,
   [(.msz, .const 0b01), (.opc, .const 0b10), (.imm4, .expr (scaledField imm 3)),
    (.pg, .expr pg.idx.toNat), (.rn, .expr rn.toNat), (.zt, .expr zt1.toNat)]⟩

/-- R354 `ld3h_si`: LD3H (load 3-element structures of halfwords to 3 vectors, scalar base plus immediate (in vector lengths)). -/
def execLd3hSi (zt1 zt2 zt3 : VReg) (pg : GovPred) (rn : XReg) (imm : ReqInt) (s : State) : Result :=
  perform .ld3hSi
    [requireLowPredicate pg,
     requireStyle [Style.zeroing] pg,
     requireInterval (-24) 21 imm,
     requireSequence zt1 [zt2, zt3],
     requireMultiple 3 imm]
    (placeLd3hSi zt1 pg rn imm) s

/-- R355, what the default table gives `ld3w_ss`: format `LDN_SS` (R134) and its fields. -/
def placeLd3wSs (zt1 : VReg) (pg : GovPred) (rn rm : XReg) : Placement :=
  ⟨.ldnSs,
   [(.msz, .const 0b10), (.opc, .const 0b10), (.rm, .expr rm.toNat), (.pg, .expr pg.idx.toNat),
    (.rn, .expr rn.toNat), (.zt, .expr zt1.toNat)]⟩

/-- R355 `ld3w_ss`: LD3W (load 3-element structures of words to 3 vectors, scalar base plus scalar index). -/
def execLd3wSs (zt1 zt2 zt3 : VReg) (pg : GovPred) (rn rm : XReg) (s : State) : Result :=
  perform .ld3wSs
    [requireLowPredicate pg, requireStyle [Style.zeroing] pg, requireSequence zt1 [zt2, zt3]]
    (placeLd3wSs zt1 pg rn rm) s

/-- R356, what the default table gives `ld3w_si`: format `LDN_SI` (R135) and its fields. -/
def placeLd3wSi (zt1 : VReg) (pg : GovPred) (rn : XReg) (imm : ReqInt) : Placement :=
  ⟨.ldnSi,
   [(.msz, .const 0b10), (.opc, .const 0b10), (.imm4, .expr (scaledField imm 3)),
    (.pg, .expr pg.idx.toNat), (.rn, .expr rn.toNat), (.zt, .expr zt1.toNat)]⟩

/-- R356 `ld3w_si`: LD3W (load 3-element structures of words to 3 vectors, scalar base plus immediate (in vector lengths)). -/
def execLd3wSi (zt1 zt2 zt3 : VReg) (pg : GovPred) (rn : XReg) (imm : ReqInt) (s : State) : Result :=
  perform .ld3wSi
    [requireLowPredicate pg,
     requireStyle [Style.zeroing] pg,
     requireInterval (-24) 21 imm,
     requireSequence zt1 [zt2, zt3],
     requireMultiple 3 imm]
    (placeLd3wSi zt1 pg rn imm) s

/-- R357, what the default table gives `ld3d_ss`: format `LDN_SS` (R134) and its fields. -/
def placeLd3dSs (zt1 : VReg) (pg : GovPred) (rn rm : XReg) : Placement :=
  ⟨.ldnSs,
   [(.msz, .const 0b11), (.opc, .const 0b10), (.rm, .expr rm.toNat), (.pg, .expr pg.idx.toNat),
    (.rn, .expr rn.toNat), (.zt, .expr zt1.toNat)]⟩

/-- R357 `ld3d_ss`: LD3D (load 3-element structures of doublewords to 3 vectors, scalar base plus scalar index). -/
def execLd3dSs (zt1 zt2 zt3 : VReg) (pg : GovPred) (rn rm : XReg) (s : State) : Result :=
  perform .ld3dSs
    [requireLowPredicate pg, requireStyle [Style.zeroing] pg, requireSequence zt1 [zt2, zt3]]
    (placeLd3dSs zt1 pg rn rm) s

/-- R358, what the default table gives `ld3d_si`: format `LDN_SI` (R135) and its fields. -/
def placeLd3dSi (zt1 : VReg) (pg : GovPred) (rn : XReg) (imm : ReqInt) : Placement :=
  ⟨.ldnSi,
   [(.msz, .const 0b11), (.opc, .const 0b10), (.imm4, .expr (scaledField imm 3)),
    (.pg, .expr pg.idx.toNat), (.rn, .expr rn.toNat), (.zt, .expr zt1.toNat)]⟩

/-- R358 `ld3d_si`: LD3D (load 3-element structures of doublewords to 3 vectors, scalar base plus immediate (in vector lengths)). -/
def execLd3dSi (zt1 zt2 zt3 : VReg) (pg : GovPred) (rn : XReg) (imm : ReqInt) (s : State) : Result :=
  perform .ld3dSi
    [requireLowPredicate pg,
     requireStyle [Style.zeroing] pg,
     requireInterval (-24) 21 imm,
     requireSequence zt1 [zt2, zt3],
     requireMultiple 3 imm]
    (placeLd3dSi zt1 pg rn imm) s

/-- R359, what the default table gives `ld4b_ss`: format `LDN_SS` (R134) and its fields. -/
def placeLd4bSs (zt1 : VReg) (pg : GovPred) (rn rm : XReg) : Placement :=
  ⟨.ldnSs,
   [(.msz, .const 0b00), (.opc, .const 0b11), (.rm, .expr rm.toNat), (.pg, .expr pg.idx.toNat),
    (.rn, .expr rn.toNat), (.zt, .expr zt1.toNat)]⟩

/-- R359 `ld4b_ss`: LD4B (load 4-element structures of bytes to 4 vectors, scalar base plus scalar index). -/
def execLd4bSs (zt1 zt2 zt3 zt4 : VReg) (pg : GovPred) (rn rm : XReg) (s : State) : Result :=
  perform .ld4bSs
    [requireLowPredicate pg, requireStyle [Style.zeroing] pg, requireSequence zt1 [zt2, zt3, zt4]]
    (placeLd4bSs zt1 pg rn rm) s

/-- R360, what the default table gives `ld4b_si`: format `LDN_SI` (R135) and its fields. -/
def placeLd4bSi (zt1 : VReg) (pg : GovPred) (rn : XReg) (imm : ReqInt) : Placement :=
  ⟨.ldnSi,
   [(.msz, .const 0b00), (.opc, .const 0b11), (.imm4, .expr (scaledField imm 4)),
    (.pg, .expr pg.idx.toNat), (.rn, .expr rn.toNat), (.zt, .expr zt1.toNat)]⟩

/-- R360 `ld4b_si`: LD4B (load 4-element structures of bytes to 4 vectors, scalar base plus immediate (in vector lengths)). -/
def execLd4bSi (zt1 zt2 zt3 zt4 : VReg) (pg : GovPred) (rn : XReg) (imm : ReqInt) (s : State) : Result :=
  perform .ld4bSi
    [requireLowPredicate pg,
     requireStyle [Style.zeroing] pg,
     requireInterval (-32) 28 imm,
     requireSequence zt1 [zt2, zt3, zt4],
     requireMultiple 4 imm]
    (placeLd4bSi zt1 pg rn imm) s

/-- R361, what the default table gives `ld4h_ss`: format `LDN_SS` (R134) and its fields. -/
def placeLd4hSs (zt1 : VReg) (pg : GovPred) (rn rm : XReg) : Placement :=
  ⟨.ldnSs,
   [(.msz, .const 0b01), (.opc, .const 0b11), (.rm, .expr rm.toNat), (.pg, .expr pg.idx.toNat),
    (.rn, .expr rn.toNat), (.zt, .expr zt1.toNat)]⟩

/-- R361 `ld4h_ss`: LD4H (load 4-element structures of halfwords to 4 vectors, scalar base plus scalar index). -/
def execLd4hSs (zt1 zt2 zt3 zt4 : VReg) (pg : GovPred) (rn rm : XReg) (s : State) : Result :=
  perform .ld4hSs
    [requireLowPredicate pg, requireStyle [Style.zeroing] pg, requireSequence zt1 [zt2, zt3, zt4]]
    (placeLd4hSs zt1 pg rn rm) s

/-- R362, what the default table gives `ld4h_si`: format `LDN_SI` (R135) and its fields. -/
def placeLd4hSi (zt1 : VReg) (pg : GovPred) (rn : XReg) (imm : ReqInt) : Placement :=
  ⟨.ldnSi,
   [(.msz, .const 0b01), (.opc, .const 0b11), (.imm4, .expr (scaledField imm 4)),
    (.pg, .expr pg.idx.toNat), (.rn, .expr rn.toNat), (.zt, .expr zt1.toNat)]⟩

/-- R362 `ld4h_si`: LD4H (load 4-element structures of halfwords to 4 vectors, scalar base plus immediate (in vector lengths)). -/
def execLd4hSi (zt1 zt2 zt3 zt4 : VReg) (pg : GovPred) (rn : XReg) (imm : ReqInt) (s : State) : Result :=
  perform .ld4hSi
    [requireLowPredicate pg,
     requireStyle [Style.zeroing] pg,
     requireInterval (-32) 28 imm,
     requireSequence zt1 [zt2, zt3, zt4],
     requireMultiple 4 imm]
    (placeLd4hSi zt1 pg rn imm) s

/-- R363, what the default table gives `ld4w_ss`: format `LDN_SS` (R134) and its fields. -/
def placeLd4wSs (zt1 : VReg) (pg : GovPred) (rn rm : XReg) : Placement :=
  ⟨.ldnSs,
   [(.msz, .const 0b10), (.opc, .const 0b11), (.rm, .expr rm.toNat), (.pg, .expr pg.idx.toNat),
    (.rn, .expr rn.toNat), (.zt, .expr zt1.toNat)]⟩

/-- R363 `ld4w_ss`: LD4W (load 4-element structures of words to 4 vectors, scalar base plus scalar index). -/
def execLd4wSs (zt1 zt2 zt3 zt4 : VReg) (pg : GovPred) (rn rm : XReg) (s : State) : Result :=
  perform .ld4wSs
    [requireLowPredicate pg, requireStyle [Style.zeroing] pg, requireSequence zt1 [zt2, zt3, zt4]]
    (placeLd4wSs zt1 pg rn rm) s

/-- R364, what the default table gives `ld4w_si`: format `LDN_SI` (R135) and its fields. -/
def placeLd4wSi (zt1 : VReg) (pg : GovPred) (rn : XReg) (imm : ReqInt) : Placement :=
  ⟨.ldnSi,
   [(.msz, .const 0b10), (.opc, .const 0b11), (.imm4, .expr (scaledField imm 4)),
    (.pg, .expr pg.idx.toNat), (.rn, .expr rn.toNat), (.zt, .expr zt1.toNat)]⟩

/-- R364 `ld4w_si`: LD4W (load 4-element structures of words to 4 vectors, scalar base plus immediate (in vector lengths)). -/
def execLd4wSi (zt1 zt2 zt3 zt4 : VReg) (pg : GovPred) (rn : XReg) (imm : ReqInt) (s : State) : Result :=
  perform .ld4wSi
    [requireLowPredicate pg,
     requireStyle [Style.zeroing] pg,
     requireInterval (-32) 28 imm,
     requireSequence zt1 [zt2, zt3, zt4],
     requireMultiple 4 imm]
    (placeLd4wSi zt1 pg rn imm) s

/-- R365, what the default table gives `ld4d_ss`: format `LDN_SS` (R134) and its fields. -/
def placeLd4dSs (zt1 : VReg) (pg : GovPred) (rn rm : XReg) : Placement :=
  ⟨.ldnSs,
   [(.msz, .const 0b11), (.opc, .const 0b11), (.rm, .expr rm.toNat), (.pg, .expr pg.idx.toNat),
    (.rn, .expr rn.toNat), (.zt, .expr zt1.toNat)]⟩

/-- R365 `ld4d_ss`: LD4D (load 4-element structures of doublewords to 4 vectors, scalar base plus scalar index). -/
def execLd4dSs (zt1 zt2 zt3 zt4 : VReg) (pg : GovPred) (rn rm : XReg) (s : State) : Result :=
  perform .ld4dSs
    [requireLowPredicate pg, requireStyle [Style.zeroing] pg, requireSequence zt1 [zt2, zt3, zt4]]
    (placeLd4dSs zt1 pg rn rm) s

/-- R366, what the default table gives `ld4d_si`: format `LDN_SI` (R135) and its fields. -/
def placeLd4dSi (zt1 : VReg) (pg : GovPred) (rn : XReg) (imm : ReqInt) : Placement :=
  ⟨.ldnSi,
   [(.msz, .const 0b11), (.opc, .const 0b11), (.imm4, .expr (scaledField imm 4)),
    (.pg, .expr pg.idx.toNat), (.rn, .expr rn.toNat), (.zt, .expr zt1.toNat)]⟩

/-- R366 `ld4d_si`: LD4D (load 4-element structures of doublewords to 4 vectors, scalar base plus immediate (in vector lengths)). -/
def execLd4dSi (zt1 zt2 zt3 zt4 : VReg) (pg : GovPred) (rn : XReg) (imm : ReqInt) (s : State) : Result :=
  perform .ld4dSi
    [requireLowPredicate pg,
     requireStyle [Style.zeroing] pg,
     requireInterval (-32) 28 imm,
     requireSequence zt1 [zt2, zt3, zt4],
     requireMultiple 4 imm]
    (placeLd4dSi zt1 pg rn imm) s

end Sys2Proof.Machine
end

