-- ==== Sys2Proof/Machine/StructuredStore.lean ====
section
/-! DEFINITION. The meanings of the operations of spec/46_loadstore_structured_st.md (R368 to R391), one definition each:
the `require` lines in the order the rule writes them, and the word its packer builds from what the table gives its fields (R178). -/

namespace Sys2Proof.Machine

/-- R368, what the default table gives `st2b_ss`: format `STN_SS` (R136) and its fields. -/
def placeSt2bSs (zt1 : VReg) (pg : GovPred) (rn rm : XReg) : Placement :=
  ⟨.stnSs,
   [(.msz, .const 0b00), (.opc, .const 0b01), (.rm, .expr rm.toNat), (.pg, .expr pg.idx.toNat),
    (.rn, .expr rn.toNat), (.zt, .expr zt1.toNat)]⟩

/-- R368 `st2b_ss`: ST2B (store 2-element structures of bytes from 2 vectors, scalar base plus scalar index). -/
def execSt2bSs (zt1 zt2 : VReg) (pg : GovPred) (rn rm : XReg) (s : State) : Result :=
  perform .st2bSs [requireLowPredicate pg, requireStyle [Style.plain] pg, requireSequence zt1 [zt2]]
    (placeSt2bSs zt1 pg rn rm) s

/-- R369, what the default table gives `st2b_si`: format `STN_SI` (R137) and its fields. -/
def placeSt2bSi (zt1 : VReg) (pg : GovPred) (rn : XReg) (imm : ReqInt) : Placement :=
  ⟨.stnSi,
   [(.msz, .const 0b00), (.opc, .const 0b01), (.imm4, .expr (scaledField imm 2)),
    (.pg, .expr pg.idx.toNat), (.rn, .expr rn.toNat), (.zt, .expr zt1.toNat)]⟩

/-- R369 `st2b_si`: ST2B (store 2-element structures of bytes from 2 vectors, scalar base plus immediate (in vector lengths)). -/
def execSt2bSi (zt1 zt2 : VReg) (pg : GovPred) (rn : XReg) (imm : ReqInt) (s : State) : Result :=
  perform .st2bSi
    [requireLowPredicate pg,
     requireStyle [Style.plain] pg,
     requireInterval (-16) 14 imm,
     requireSequence zt1 [zt2],
     requireMultiple 2 imm]
    (placeSt2bSi zt1 pg rn imm) s

/-- R370, what the default table gives `st2h_ss`: format `STN_SS` (R136) and its fields. -/
def placeSt2hSs (zt1 : VReg) (pg : GovPred) (rn rm : XReg) : Placement :=
  ⟨.stnSs,
   [(.msz, .const 0b01), (.opc, .const 0b01), (.rm, .expr rm.toNat), (.pg, .expr pg.idx.toNat),
    (.rn, .expr rn.toNat), (.zt, .expr zt1.toNat)]⟩

/-- R370 `st2h_ss`: ST2H (store 2-element structures of halfwords from 2 vectors, scalar base plus scalar index). -/
def execSt2hSs (zt1 zt2 : VReg) (pg : GovPred) (rn rm : XReg) (s : State) : Result :=
  perform .st2hSs [requireLowPredicate pg, requireStyle [Style.plain] pg, requireSequence zt1 [zt2]]
    (placeSt2hSs zt1 pg rn rm) s

/-- R371, what the default table gives `st2h_si`: format `STN_SI` (R137) and its fields. -/
def placeSt2hSi (zt1 : VReg) (pg : GovPred) (rn : XReg) (imm : ReqInt) : Placement :=
  ⟨.stnSi,
   [(.msz, .const 0b01), (.opc, .const 0b01), (.imm4, .expr (scaledField imm 2)),
    (.pg, .expr pg.idx.toNat), (.rn, .expr rn.toNat), (.zt, .expr zt1.toNat)]⟩

/-- R371 `st2h_si`: ST2H (store 2-element structures of halfwords from 2 vectors, scalar base plus immediate (in vector lengths)). -/
def execSt2hSi (zt1 zt2 : VReg) (pg : GovPred) (rn : XReg) (imm : ReqInt) (s : State) : Result :=
  perform .st2hSi
    [requireLowPredicate pg,
     requireStyle [Style.plain] pg,
     requireInterval (-16) 14 imm,
     requireSequence zt1 [zt2],
     requireMultiple 2 imm]
    (placeSt2hSi zt1 pg rn imm) s

/-- R372, what the default table gives `st2w_ss`: format `STN_SS` (R136) and its fields. -/
def placeSt2wSs (zt1 : VReg) (pg : GovPred) (rn rm : XReg) : Placement :=
  ⟨.stnSs,
   [(.msz, .const 0b10), (.opc, .const 0b01), (.rm, .expr rm.toNat), (.pg, .expr pg.idx.toNat),
    (.rn, .expr rn.toNat), (.zt, .expr zt1.toNat)]⟩

/-- R372 `st2w_ss`: ST2W (store 2-element structures of words from 2 vectors, scalar base plus scalar index). -/
def execSt2wSs (zt1 zt2 : VReg) (pg : GovPred) (rn rm : XReg) (s : State) : Result :=
  perform .st2wSs [requireLowPredicate pg, requireStyle [Style.plain] pg, requireSequence zt1 [zt2]]
    (placeSt2wSs zt1 pg rn rm) s

/-- R373, what the default table gives `st2w_si`: format `STN_SI` (R137) and its fields. -/
def placeSt2wSi (zt1 : VReg) (pg : GovPred) (rn : XReg) (imm : ReqInt) : Placement :=
  ⟨.stnSi,
   [(.msz, .const 0b10), (.opc, .const 0b01), (.imm4, .expr (scaledField imm 2)),
    (.pg, .expr pg.idx.toNat), (.rn, .expr rn.toNat), (.zt, .expr zt1.toNat)]⟩

/-- R373 `st2w_si`: ST2W (store 2-element structures of words from 2 vectors, scalar base plus immediate (in vector lengths)). -/
def execSt2wSi (zt1 zt2 : VReg) (pg : GovPred) (rn : XReg) (imm : ReqInt) (s : State) : Result :=
  perform .st2wSi
    [requireLowPredicate pg,
     requireStyle [Style.plain] pg,
     requireInterval (-16) 14 imm,
     requireSequence zt1 [zt2],
     requireMultiple 2 imm]
    (placeSt2wSi zt1 pg rn imm) s

/-- R374, what the default table gives `st2d_ss`: format `STN_SS` (R136) and its fields. -/
def placeSt2dSs (zt1 : VReg) (pg : GovPred) (rn rm : XReg) : Placement :=
  ⟨.stnSs,
   [(.msz, .const 0b11), (.opc, .const 0b01), (.rm, .expr rm.toNat), (.pg, .expr pg.idx.toNat),
    (.rn, .expr rn.toNat), (.zt, .expr zt1.toNat)]⟩

/-- R374 `st2d_ss`: ST2D (store 2-element structures of doublewords from 2 vectors, scalar base plus scalar index). -/
def execSt2dSs (zt1 zt2 : VReg) (pg : GovPred) (rn rm : XReg) (s : State) : Result :=
  perform .st2dSs [requireLowPredicate pg, requireStyle [Style.plain] pg, requireSequence zt1 [zt2]]
    (placeSt2dSs zt1 pg rn rm) s

/-- R375, what the default table gives `st2d_si`: format `STN_SI` (R137) and its fields. -/
def placeSt2dSi (zt1 : VReg) (pg : GovPred) (rn : XReg) (imm : ReqInt) : Placement :=
  ⟨.stnSi,
   [(.msz, .const 0b11), (.opc, .const 0b01), (.imm4, .expr (scaledField imm 2)),
    (.pg, .expr pg.idx.toNat), (.rn, .expr rn.toNat), (.zt, .expr zt1.toNat)]⟩

/-- R375 `st2d_si`: ST2D (store 2-element structures of doublewords from 2 vectors, scalar base plus immediate (in vector lengths)). -/
def execSt2dSi (zt1 zt2 : VReg) (pg : GovPred) (rn : XReg) (imm : ReqInt) (s : State) : Result :=
  perform .st2dSi
    [requireLowPredicate pg,
     requireStyle [Style.plain] pg,
     requireInterval (-16) 14 imm,
     requireSequence zt1 [zt2],
     requireMultiple 2 imm]
    (placeSt2dSi zt1 pg rn imm) s

/-- R376, what the default table gives `st3b_ss`: format `STN_SS` (R136) and its fields. -/
def placeSt3bSs (zt1 : VReg) (pg : GovPred) (rn rm : XReg) : Placement :=
  ⟨.stnSs,
   [(.msz, .const 0b00), (.opc, .const 0b10), (.rm, .expr rm.toNat), (.pg, .expr pg.idx.toNat),
    (.rn, .expr rn.toNat), (.zt, .expr zt1.toNat)]⟩

/-- R376 `st3b_ss`: ST3B (store 3-element structures of bytes from 3 vectors, scalar base plus scalar index). -/
def execSt3bSs (zt1 zt2 zt3 : VReg) (pg : GovPred) (rn rm : XReg) (s : State) : Result :=
  perform .st3bSs
    [requireLowPredicate pg, requireStyle [Style.plain] pg, requireSequence zt1 [zt2, zt3]]
    (placeSt3bSs zt1 pg rn rm) s

/-- R377, what the default table gives `st3b_si`: format `STN_SI` (R137) and its fields. -/
def placeSt3bSi (zt1 : VReg) (pg : GovPred) (rn : XReg) (imm : ReqInt) : Placement :=
  ⟨.stnSi,
   [(.msz, .const 0b00), (.opc, .const 0b10), (.imm4, .expr (scaledField imm 3)),
    (.pg, .expr pg.idx.toNat), (.rn, .expr rn.toNat), (.zt, .expr zt1.toNat)]⟩

/-- R377 `st3b_si`: ST3B (store 3-element structures of bytes from 3 vectors, scalar base plus immediate (in vector lengths)). -/
def execSt3bSi (zt1 zt2 zt3 : VReg) (pg : GovPred) (rn : XReg) (imm : ReqInt) (s : State) : Result :=
  perform .st3bSi
    [requireLowPredicate pg,
     requireStyle [Style.plain] pg,
     requireInterval (-24) 21 imm,
     requireSequence zt1 [zt2, zt3],
     requireMultiple 3 imm]
    (placeSt3bSi zt1 pg rn imm) s

/-- R378, what the default table gives `st3h_ss`: format `STN_SS` (R136) and its fields. -/
def placeSt3hSs (zt1 : VReg) (pg : GovPred) (rn rm : XReg) : Placement :=
  ⟨.stnSs,
   [(.msz, .const 0b01), (.opc, .const 0b10), (.rm, .expr rm.toNat), (.pg, .expr pg.idx.toNat),
    (.rn, .expr rn.toNat), (.zt, .expr zt1.toNat)]⟩

/-- R378 `st3h_ss`: ST3H (store 3-element structures of halfwords from 3 vectors, scalar base plus scalar index). -/
def execSt3hSs (zt1 zt2 zt3 : VReg) (pg : GovPred) (rn rm : XReg) (s : State) : Result :=
  perform .st3hSs
    [requireLowPredicate pg, requireStyle [Style.plain] pg, requireSequence zt1 [zt2, zt3]]
    (placeSt3hSs zt1 pg rn rm) s

/-- R379, what the default table gives `st3h_si`: format `STN_SI` (R137) and its fields. -/
def placeSt3hSi (zt1 : VReg) (pg : GovPred) (rn : XReg) (imm : ReqInt) : Placement :=
  ⟨.stnSi,
   [(.msz, .const 0b01), (.opc, .const 0b10), (.imm4, .expr (scaledField imm 3)),
    (.pg, .expr pg.idx.toNat), (.rn, .expr rn.toNat), (.zt, .expr zt1.toNat)]⟩

/-- R379 `st3h_si`: ST3H (store 3-element structures of halfwords from 3 vectors, scalar base plus immediate (in vector lengths)). -/
def execSt3hSi (zt1 zt2 zt3 : VReg) (pg : GovPred) (rn : XReg) (imm : ReqInt) (s : State) : Result :=
  perform .st3hSi
    [requireLowPredicate pg,
     requireStyle [Style.plain] pg,
     requireInterval (-24) 21 imm,
     requireSequence zt1 [zt2, zt3],
     requireMultiple 3 imm]
    (placeSt3hSi zt1 pg rn imm) s

/-- R380, what the default table gives `st3w_ss`: format `STN_SS` (R136) and its fields. -/
def placeSt3wSs (zt1 : VReg) (pg : GovPred) (rn rm : XReg) : Placement :=
  ⟨.stnSs,
   [(.msz, .const 0b10), (.opc, .const 0b10), (.rm, .expr rm.toNat), (.pg, .expr pg.idx.toNat),
    (.rn, .expr rn.toNat), (.zt, .expr zt1.toNat)]⟩

/-- R380 `st3w_ss`: ST3W (store 3-element structures of words from 3 vectors, scalar base plus scalar index). -/
def execSt3wSs (zt1 zt2 zt3 : VReg) (pg : GovPred) (rn rm : XReg) (s : State) : Result :=
  perform .st3wSs
    [requireLowPredicate pg, requireStyle [Style.plain] pg, requireSequence zt1 [zt2, zt3]]
    (placeSt3wSs zt1 pg rn rm) s

/-- R381, what the default table gives `st3w_si`: format `STN_SI` (R137) and its fields. -/
def placeSt3wSi (zt1 : VReg) (pg : GovPred) (rn : XReg) (imm : ReqInt) : Placement :=
  ⟨.stnSi,
   [(.msz, .const 0b10), (.opc, .const 0b10), (.imm4, .expr (scaledField imm 3)),
    (.pg, .expr pg.idx.toNat), (.rn, .expr rn.toNat), (.zt, .expr zt1.toNat)]⟩

/-- R381 `st3w_si`: ST3W (store 3-element structures of words from 3 vectors, scalar base plus immediate (in vector lengths)). -/
def execSt3wSi (zt1 zt2 zt3 : VReg) (pg : GovPred) (rn : XReg) (imm : ReqInt) (s : State) : Result :=
  perform .st3wSi
    [requireLowPredicate pg,
     requireStyle [Style.plain] pg,
     requireInterval (-24) 21 imm,
     requireSequence zt1 [zt2, zt3],
     requireMultiple 3 imm]
    (placeSt3wSi zt1 pg rn imm) s

/-- R382, what the default table gives `st3d_ss`: format `STN_SS` (R136) and its fields. -/
def placeSt3dSs (zt1 : VReg) (pg : GovPred) (rn rm : XReg) : Placement :=
  ⟨.stnSs,
   [(.msz, .const 0b11), (.opc, .const 0b10), (.rm, .expr rm.toNat), (.pg, .expr pg.idx.toNat),
    (.rn, .expr rn.toNat), (.zt, .expr zt1.toNat)]⟩

/-- R382 `st3d_ss`: ST3D (store 3-element structures of doublewords from 3 vectors, scalar base plus scalar index). -/
def execSt3dSs (zt1 zt2 zt3 : VReg) (pg : GovPred) (rn rm : XReg) (s : State) : Result :=
  perform .st3dSs
    [requireLowPredicate pg, requireStyle [Style.plain] pg, requireSequence zt1 [zt2, zt3]]
    (placeSt3dSs zt1 pg rn rm) s

/-- R383, what the default table gives `st3d_si`: format `STN_SI` (R137) and its fields. -/
def placeSt3dSi (zt1 : VReg) (pg : GovPred) (rn : XReg) (imm : ReqInt) : Placement :=
  ⟨.stnSi,
   [(.msz, .const 0b11), (.opc, .const 0b10), (.imm4, .expr (scaledField imm 3)),
    (.pg, .expr pg.idx.toNat), (.rn, .expr rn.toNat), (.zt, .expr zt1.toNat)]⟩

/-- R383 `st3d_si`: ST3D (store 3-element structures of doublewords from 3 vectors, scalar base plus immediate (in vector lengths)). -/
def execSt3dSi (zt1 zt2 zt3 : VReg) (pg : GovPred) (rn : XReg) (imm : ReqInt) (s : State) : Result :=
  perform .st3dSi
    [requireLowPredicate pg,
     requireStyle [Style.plain] pg,
     requireInterval (-24) 21 imm,
     requireSequence zt1 [zt2, zt3],
     requireMultiple 3 imm]
    (placeSt3dSi zt1 pg rn imm) s

/-- R384, what the default table gives `st4b_ss`: format `STN_SS` (R136) and its fields. -/
def placeSt4bSs (zt1 : VReg) (pg : GovPred) (rn rm : XReg) : Placement :=
  ⟨.stnSs,
   [(.msz, .const 0b00), (.opc, .const 0b11), (.rm, .expr rm.toNat), (.pg, .expr pg.idx.toNat),
    (.rn, .expr rn.toNat), (.zt, .expr zt1.toNat)]⟩

/-- R384 `st4b_ss`: ST4B (store 4-element structures of bytes from 4 vectors, scalar base plus scalar index). -/
def execSt4bSs (zt1 zt2 zt3 zt4 : VReg) (pg : GovPred) (rn rm : XReg) (s : State) : Result :=
  perform .st4bSs
    [requireLowPredicate pg, requireStyle [Style.plain] pg, requireSequence zt1 [zt2, zt3, zt4]]
    (placeSt4bSs zt1 pg rn rm) s

/-- R385, what the default table gives `st4b_si`: format `STN_SI` (R137) and its fields. -/
def placeSt4bSi (zt1 : VReg) (pg : GovPred) (rn : XReg) (imm : ReqInt) : Placement :=
  ⟨.stnSi,
   [(.msz, .const 0b00), (.opc, .const 0b11), (.imm4, .expr (scaledField imm 4)),
    (.pg, .expr pg.idx.toNat), (.rn, .expr rn.toNat), (.zt, .expr zt1.toNat)]⟩

/-- R385 `st4b_si`: ST4B (store 4-element structures of bytes from 4 vectors, scalar base plus immediate (in vector lengths)). -/
def execSt4bSi (zt1 zt2 zt3 zt4 : VReg) (pg : GovPred) (rn : XReg) (imm : ReqInt) (s : State) : Result :=
  perform .st4bSi
    [requireLowPredicate pg,
     requireStyle [Style.plain] pg,
     requireInterval (-32) 28 imm,
     requireSequence zt1 [zt2, zt3, zt4],
     requireMultiple 4 imm]
    (placeSt4bSi zt1 pg rn imm) s

/-- R386, what the default table gives `st4h_ss`: format `STN_SS` (R136) and its fields. -/
def placeSt4hSs (zt1 : VReg) (pg : GovPred) (rn rm : XReg) : Placement :=
  ⟨.stnSs,
   [(.msz, .const 0b01), (.opc, .const 0b11), (.rm, .expr rm.toNat), (.pg, .expr pg.idx.toNat),
    (.rn, .expr rn.toNat), (.zt, .expr zt1.toNat)]⟩

/-- R386 `st4h_ss`: ST4H (store 4-element structures of halfwords from 4 vectors, scalar base plus scalar index). -/
def execSt4hSs (zt1 zt2 zt3 zt4 : VReg) (pg : GovPred) (rn rm : XReg) (s : State) : Result :=
  perform .st4hSs
    [requireLowPredicate pg, requireStyle [Style.plain] pg, requireSequence zt1 [zt2, zt3, zt4]]
    (placeSt4hSs zt1 pg rn rm) s

/-- R387, what the default table gives `st4h_si`: format `STN_SI` (R137) and its fields. -/
def placeSt4hSi (zt1 : VReg) (pg : GovPred) (rn : XReg) (imm : ReqInt) : Placement :=
  ⟨.stnSi,
   [(.msz, .const 0b01), (.opc, .const 0b11), (.imm4, .expr (scaledField imm 4)),
    (.pg, .expr pg.idx.toNat), (.rn, .expr rn.toNat), (.zt, .expr zt1.toNat)]⟩

/-- R387 `st4h_si`: ST4H (store 4-element structures of halfwords from 4 vectors, scalar base plus immediate (in vector lengths)). -/
def execSt4hSi (zt1 zt2 zt3 zt4 : VReg) (pg : GovPred) (rn : XReg) (imm : ReqInt) (s : State) : Result :=
  perform .st4hSi
    [requireLowPredicate pg,
     requireStyle [Style.plain] pg,
     requireInterval (-32) 28 imm,
     requireSequence zt1 [zt2, zt3, zt4],
     requireMultiple 4 imm]
    (placeSt4hSi zt1 pg rn imm) s

/-- R388, what the default table gives `st4w_ss`: format `STN_SS` (R136) and its fields. -/
def placeSt4wSs (zt1 : VReg) (pg : GovPred) (rn rm : XReg) : Placement :=
  ⟨.stnSs,
   [(.msz, .const 0b10), (.opc, .const 0b11), (.rm, .expr rm.toNat), (.pg, .expr pg.idx.toNat),
    (.rn, .expr rn.toNat), (.zt, .expr zt1.toNat)]⟩

/-- R388 `st4w_ss`: ST4W (store 4-element structures of words from 4 vectors, scalar base plus scalar index). -/
def execSt4wSs (zt1 zt2 zt3 zt4 : VReg) (pg : GovPred) (rn rm : XReg) (s : State) : Result :=
  perform .st4wSs
    [requireLowPredicate pg, requireStyle [Style.plain] pg, requireSequence zt1 [zt2, zt3, zt4]]
    (placeSt4wSs zt1 pg rn rm) s

/-- R389, what the default table gives `st4w_si`: format `STN_SI` (R137) and its fields. -/
def placeSt4wSi (zt1 : VReg) (pg : GovPred) (rn : XReg) (imm : ReqInt) : Placement :=
  ⟨.stnSi,
   [(.msz, .const 0b10), (.opc, .const 0b11), (.imm4, .expr (scaledField imm 4)),
    (.pg, .expr pg.idx.toNat), (.rn, .expr rn.toNat), (.zt, .expr zt1.toNat)]⟩

/-- R389 `st4w_si`: ST4W (store 4-element structures of words from 4 vectors, scalar base plus immediate (in vector lengths)). -/
def execSt4wSi (zt1 zt2 zt3 zt4 : VReg) (pg : GovPred) (rn : XReg) (imm : ReqInt) (s : State) : Result :=
  perform .st4wSi
    [requireLowPredicate pg,
     requireStyle [Style.plain] pg,
     requireInterval (-32) 28 imm,
     requireSequence zt1 [zt2, zt3, zt4],
     requireMultiple 4 imm]
    (placeSt4wSi zt1 pg rn imm) s

/-- R390, what the default table gives `st4d_ss`: format `STN_SS` (R136) and its fields. -/
def placeSt4dSs (zt1 : VReg) (pg : GovPred) (rn rm : XReg) : Placement :=
  ⟨.stnSs,
   [(.msz, .const 0b11), (.opc, .const 0b11), (.rm, .expr rm.toNat), (.pg, .expr pg.idx.toNat),
    (.rn, .expr rn.toNat), (.zt, .expr zt1.toNat)]⟩

/-- R390 `st4d_ss`: ST4D (store 4-element structures of doublewords from 4 vectors, scalar base plus scalar index). -/
def execSt4dSs (zt1 zt2 zt3 zt4 : VReg) (pg : GovPred) (rn rm : XReg) (s : State) : Result :=
  perform .st4dSs
    [requireLowPredicate pg, requireStyle [Style.plain] pg, requireSequence zt1 [zt2, zt3, zt4]]
    (placeSt4dSs zt1 pg rn rm) s

/-- R391, what the default table gives `st4d_si`: format `STN_SI` (R137) and its fields. -/
def placeSt4dSi (zt1 : VReg) (pg : GovPred) (rn : XReg) (imm : ReqInt) : Placement :=
  ⟨.stnSi,
   [(.msz, .const 0b11), (.opc, .const 0b11), (.imm4, .expr (scaledField imm 4)),
    (.pg, .expr pg.idx.toNat), (.rn, .expr rn.toNat), (.zt, .expr zt1.toNat)]⟩

/-- R391 `st4d_si`: ST4D (store 4-element structures of doublewords from 4 vectors, scalar base plus immediate (in vector lengths)). -/
def execSt4dSi (zt1 zt2 zt3 zt4 : VReg) (pg : GovPred) (rn : XReg) (imm : ReqInt) (s : State) : Result :=
  perform .st4dSi
    [requireLowPredicate pg,
     requireStyle [Style.plain] pg,
     requireInterval (-32) 28 imm,
     requireSequence zt1 [zt2, zt3, zt4],
     requireMultiple 4 imm]
    (placeSt4dSi zt1 pg rn imm) s

end Sys2Proof.Machine
end

