-- ==== Sys2Proof/Machine/WidenNarrow.lean ====
section
/-! DEFINITION. The meanings of the operations of spec/48_widen_narrow.md (R420 to R465), one definition each:
the `require` lines in the order the rule writes them, and the word its packer builds from what the table gives its fields (R178). -/

namespace Sys2Proof.Machine

/-- R420, what the default table gives `saddlb`: format `WIDEN_LONG` (R143) and its fields. -/
def placeSaddlb (size : ReqInt) (zd zn zm : VReg) : Placement :=
  ⟨.widenLong,
   [(.size, .expr (sizecode size)), (.zm, .expr zm.toNat), (.op, .const 0b0), (.s, .const 0b0),
    (.u, .const 0b0), (.t, .const 0b0), (.zn, .expr zn.toNat), (.zd, .expr zd.toNat)]⟩

/-- R420 `saddlb`: SADDLB (signed add long (bottom)). -/
def execSaddlb (size : ReqInt) (zd zn zm : VReg) (s : State) : Result :=
  perform .saddlb [requireSize [16, 32, 64] size]
    (placeSaddlb size zd zn zm) s

/-- R421, what the default table gives `saddlt`: format `WIDEN_LONG` (R143) and its fields. -/
def placeSaddlt (size : ReqInt) (zd zn zm : VReg) : Placement :=
  ⟨.widenLong,
   [(.size, .expr (sizecode size)), (.zm, .expr zm.toNat), (.op, .const 0b0), (.s, .const 0b0),
    (.u, .const 0b0), (.t, .const 0b1), (.zn, .expr zn.toNat), (.zd, .expr zd.toNat)]⟩

/-- R421 `saddlt`: SADDLT (signed add long (top)). -/
def execSaddlt (size : ReqInt) (zd zn zm : VReg) (s : State) : Result :=
  perform .saddlt [requireSize [16, 32, 64] size]
    (placeSaddlt size zd zn zm) s

/-- R422, what the default table gives `uaddlb`: format `WIDEN_LONG` (R143) and its fields. -/
def placeUaddlb (size : ReqInt) (zd zn zm : VReg) : Placement :=
  ⟨.widenLong,
   [(.size, .expr (sizecode size)), (.zm, .expr zm.toNat), (.op, .const 0b0), (.s, .const 0b0),
    (.u, .const 0b1), (.t, .const 0b0), (.zn, .expr zn.toNat), (.zd, .expr zd.toNat)]⟩

/-- R422 `uaddlb`: UADDLB (unsigned add long (bottom)). -/
def execUaddlb (size : ReqInt) (zd zn zm : VReg) (s : State) : Result :=
  perform .uaddlb [requireSize [16, 32, 64] size]
    (placeUaddlb size zd zn zm) s

/-- R423, what the default table gives `uaddlt`: format `WIDEN_LONG` (R143) and its fields. -/
def placeUaddlt (size : ReqInt) (zd zn zm : VReg) : Placement :=
  ⟨.widenLong,
   [(.size, .expr (sizecode size)), (.zm, .expr zm.toNat), (.op, .const 0b0), (.s, .const 0b0),
    (.u, .const 0b1), (.t, .const 0b1), (.zn, .expr zn.toNat), (.zd, .expr zd.toNat)]⟩

/-- R423 `uaddlt`: UADDLT (unsigned add long (top)). -/
def execUaddlt (size : ReqInt) (zd zn zm : VReg) (s : State) : Result :=
  perform .uaddlt [requireSize [16, 32, 64] size]
    (placeUaddlt size zd zn zm) s

/-- R424, what the default table gives `ssublb`: format `WIDEN_LONG` (R143) and its fields. -/
def placeSsublb (size : ReqInt) (zd zn zm : VReg) : Placement :=
  ⟨.widenLong,
   [(.size, .expr (sizecode size)), (.zm, .expr zm.toNat), (.op, .const 0b0), (.s, .const 0b1),
    (.u, .const 0b0), (.t, .const 0b0), (.zn, .expr zn.toNat), (.zd, .expr zd.toNat)]⟩

/-- R424 `ssublb`: SSUBLB (signed subtract long (bottom)). -/
def execSsublb (size : ReqInt) (zd zn zm : VReg) (s : State) : Result :=
  perform .ssublb [requireSize [16, 32, 64] size]
    (placeSsublb size zd zn zm) s

/-- R425, what the default table gives `ssublt`: format `WIDEN_LONG` (R143) and its fields. -/
def placeSsublt (size : ReqInt) (zd zn zm : VReg) : Placement :=
  ⟨.widenLong,
   [(.size, .expr (sizecode size)), (.zm, .expr zm.toNat), (.op, .const 0b0), (.s, .const 0b1),
    (.u, .const 0b0), (.t, .const 0b1), (.zn, .expr zn.toNat), (.zd, .expr zd.toNat)]⟩

/-- R425 `ssublt`: SSUBLT (signed subtract long (top)). -/
def execSsublt (size : ReqInt) (zd zn zm : VReg) (s : State) : Result :=
  perform .ssublt [requireSize [16, 32, 64] size]
    (placeSsublt size zd zn zm) s

/-- R426, what the default table gives `usublb`: format `WIDEN_LONG` (R143) and its fields. -/
def placeUsublb (size : ReqInt) (zd zn zm : VReg) : Placement :=
  ⟨.widenLong,
   [(.size, .expr (sizecode size)), (.zm, .expr zm.toNat), (.op, .const 0b0), (.s, .const 0b1),
    (.u, .const 0b1), (.t, .const 0b0), (.zn, .expr zn.toNat), (.zd, .expr zd.toNat)]⟩

/-- R426 `usublb`: USUBLB (unsigned subtract long (bottom)). -/
def execUsublb (size : ReqInt) (zd zn zm : VReg) (s : State) : Result :=
  perform .usublb [requireSize [16, 32, 64] size]
    (placeUsublb size zd zn zm) s

/-- R427, what the default table gives `usublt`: format `WIDEN_LONG` (R143) and its fields. -/
def placeUsublt (size : ReqInt) (zd zn zm : VReg) : Placement :=
  ⟨.widenLong,
   [(.size, .expr (sizecode size)), (.zm, .expr zm.toNat), (.op, .const 0b0), (.s, .const 0b1),
    (.u, .const 0b1), (.t, .const 0b1), (.zn, .expr zn.toNat), (.zd, .expr zd.toNat)]⟩

/-- R427 `usublt`: USUBLT (unsigned subtract long (top)). -/
def execUsublt (size : ReqInt) (zd zn zm : VReg) (s : State) : Result :=
  perform .usublt [requireSize [16, 32, 64] size]
    (placeUsublt size zd zn zm) s

/-- R428, what the default table gives `sabdlb`: format `WIDEN_LONG` (R143) and its fields. -/
def placeSabdlb (size : ReqInt) (zd zn zm : VReg) : Placement :=
  ⟨.widenLong,
   [(.size, .expr (sizecode size)), (.zm, .expr zm.toNat), (.op, .const 0b1), (.s, .const 0b1),
    (.u, .const 0b0), (.t, .const 0b0), (.zn, .expr zn.toNat), (.zd, .expr zd.toNat)]⟩

/-- R428 `sabdlb`: SABDLB (signed absolute difference long (bottom)). -/
def execSabdlb (size : ReqInt) (zd zn zm : VReg) (s : State) : Result :=
  perform .sabdlb [requireSize [16, 32, 64] size]
    (placeSabdlb size zd zn zm) s

/-- R429, what the default table gives `sabdlt`: format `WIDEN_LONG` (R143) and its fields. -/
def placeSabdlt (size : ReqInt) (zd zn zm : VReg) : Placement :=
  ⟨.widenLong,
   [(.size, .expr (sizecode size)), (.zm, .expr zm.toNat), (.op, .const 0b1), (.s, .const 0b1),
    (.u, .const 0b0), (.t, .const 0b1), (.zn, .expr zn.toNat), (.zd, .expr zd.toNat)]⟩

/-- R429 `sabdlt`: SABDLT (signed absolute difference long (top)). -/
def execSabdlt (size : ReqInt) (zd zn zm : VReg) (s : State) : Result :=
  perform .sabdlt [requireSize [16, 32, 64] size]
    (placeSabdlt size zd zn zm) s

/-- R430, what the default table gives `uabdlb`: format `WIDEN_LONG` (R143) and its fields. -/
def placeUabdlb (size : ReqInt) (zd zn zm : VReg) : Placement :=
  ⟨.widenLong,
   [(.size, .expr (sizecode size)), (.zm, .expr zm.toNat), (.op, .const 0b1), (.s, .const 0b1),
    (.u, .const 0b1), (.t, .const 0b0), (.zn, .expr zn.toNat), (.zd, .expr zd.toNat)]⟩

/-- R430 `uabdlb`: UABDLB (unsigned absolute difference long (bottom)). -/
def execUabdlb (size : ReqInt) (zd zn zm : VReg) (s : State) : Result :=
  perform .uabdlb [requireSize [16, 32, 64] size]
    (placeUabdlb size zd zn zm) s

/-- R431, what the default table gives `uabdlt`: format `WIDEN_LONG` (R143) and its fields. -/
def placeUabdlt (size : ReqInt) (zd zn zm : VReg) : Placement :=
  ⟨.widenLong,
   [(.size, .expr (sizecode size)), (.zm, .expr zm.toNat), (.op, .const 0b1), (.s, .const 0b1),
    (.u, .const 0b1), (.t, .const 0b1), (.zn, .expr zn.toNat), (.zd, .expr zd.toNat)]⟩

/-- R431 `uabdlt`: UABDLT (unsigned absolute difference long (top)). -/
def execUabdlt (size : ReqInt) (zd zn zm : VReg) (s : State) : Result :=
  perform .uabdlt [requireSize [16, 32, 64] size]
    (placeUabdlt size zd zn zm) s

/-- R432, what the default table gives `sshllb`: format `SHIFT_LEFT_LONG` (R144) and its fields. -/
def placeSshllb (size : ReqInt) (zd zn : VReg) (shift : ReqInt) : Placement :=
  let t := shiftFields (size.toInt / 2) shift.toInt true
  ⟨.shiftLeftLong,
   [(.tszh, .expr ((t.high.extractLsb' 0 1).toNat)), (.tszl, .expr t.low.toNat),
    (.imm3, .expr t.res.toNat), (.u, .const 0b0), (.t, .const 0b0), (.zn, .expr zn.toNat),
    (.zd, .expr zd.toNat)]⟩

/-- R432 `sshllb`: SSHLLB (signed shift left long by immediate (bottom)). -/
def execSshllb (size : ReqInt) (zd zn : VReg) (shift : ReqInt) (s : State) : Result :=
  perform .sshllb [requireSize [16, 32, 64] size, requireLeftShift (size.toInt / 2) shift]
    (placeSshllb size zd zn shift) s

/-- R433, what the default table gives `sshllt`: format `SHIFT_LEFT_LONG` (R144) and its fields. -/
def placeSshllt (size : ReqInt) (zd zn : VReg) (shift : ReqInt) : Placement :=
  let t := shiftFields (size.toInt / 2) shift.toInt true
  ⟨.shiftLeftLong,
   [(.tszh, .expr ((t.high.extractLsb' 0 1).toNat)), (.tszl, .expr t.low.toNat),
    (.imm3, .expr t.res.toNat), (.u, .const 0b0), (.t, .const 0b1), (.zn, .expr zn.toNat),
    (.zd, .expr zd.toNat)]⟩

/-- R433 `sshllt`: SSHLLT (signed shift left long by immediate (top)). -/
def execSshllt (size : ReqInt) (zd zn : VReg) (shift : ReqInt) (s : State) : Result :=
  perform .sshllt [requireSize [16, 32, 64] size, requireLeftShift (size.toInt / 2) shift]
    (placeSshllt size zd zn shift) s

/-- R434, what the default table gives `ushllb`: format `SHIFT_LEFT_LONG` (R144) and its fields. -/
def placeUshllb (size : ReqInt) (zd zn : VReg) (shift : ReqInt) : Placement :=
  let t := shiftFields (size.toInt / 2) shift.toInt true
  ⟨.shiftLeftLong,
   [(.tszh, .expr ((t.high.extractLsb' 0 1).toNat)), (.tszl, .expr t.low.toNat),
    (.imm3, .expr t.res.toNat), (.u, .const 0b1), (.t, .const 0b0), (.zn, .expr zn.toNat),
    (.zd, .expr zd.toNat)]⟩

/-- R434 `ushllb`: USHLLB (unsigned shift left long by immediate (bottom)). -/
def execUshllb (size : ReqInt) (zd zn : VReg) (shift : ReqInt) (s : State) : Result :=
  perform .ushllb [requireSize [16, 32, 64] size, requireLeftShift (size.toInt / 2) shift]
    (placeUshllb size zd zn shift) s

/-- R435, what the default table gives `ushllt`: format `SHIFT_LEFT_LONG` (R144) and its fields. -/
def placeUshllt (size : ReqInt) (zd zn : VReg) (shift : ReqInt) : Placement :=
  let t := shiftFields (size.toInt / 2) shift.toInt true
  ⟨.shiftLeftLong,
   [(.tszh, .expr ((t.high.extractLsb' 0 1).toNat)), (.tszl, .expr t.low.toNat),
    (.imm3, .expr t.res.toNat), (.u, .const 0b1), (.t, .const 0b1), (.zn, .expr zn.toNat),
    (.zd, .expr zd.toNat)]⟩

/-- R435 `ushllt`: USHLLT (unsigned shift left long by immediate (top)). -/
def execUshllt (size : ReqInt) (zd zn : VReg) (shift : ReqInt) (s : State) : Result :=
  perform .ushllt [requireSize [16, 32, 64] size, requireLeftShift (size.toInt / 2) shift]
    (placeUshllt size zd zn shift) s

/-- R436, what the default table gives `addhnb`: format `NARROW_HIGH` (R145) and its fields. -/
def placeAddhnb (size : ReqInt) (zd zn zm : VReg) : Placement :=
  ⟨.narrowHigh,
   [(.size, .expr (sizecode size + 1)), (.zm, .expr zm.toNat), (.s, .const 0b0), (.r, .const 0b0),
    (.t, .const 0b0), (.zn, .expr zn.toNat), (.zd, .expr zd.toNat)]⟩

/-- R436 `addhnb`: ADDHNB (add narrow high part (bottom)). -/
def execAddhnb (size : ReqInt) (zd zn zm : VReg) (s : State) : Result :=
  perform .addhnb [requireSize [8, 16, 32] size]
    (placeAddhnb size zd zn zm) s

/-- R437, what the default table gives `addhnt`: format `NARROW_HIGH` (R145) and its fields. -/
def placeAddhnt (size : ReqInt) (zd zn zm : VReg) : Placement :=
  ⟨.narrowHigh,
   [(.size, .expr (sizecode size + 1)), (.zm, .expr zm.toNat), (.s, .const 0b0), (.r, .const 0b0),
    (.t, .const 0b1), (.zn, .expr zn.toNat), (.zd, .expr zd.toNat)]⟩

/-- R437 `addhnt`: ADDHNT (add narrow high part (top)). -/
def execAddhnt (size : ReqInt) (zd zn zm : VReg) (s : State) : Result :=
  perform .addhnt [requireSize [8, 16, 32] size]
    (placeAddhnt size zd zn zm) s

/-- R438, what the default table gives `raddhnb`: format `NARROW_HIGH` (R145) and its fields. -/
def placeRaddhnb (size : ReqInt) (zd zn zm : VReg) : Placement :=
  ⟨.narrowHigh,
   [(.size, .expr (sizecode size + 1)), (.zm, .expr zm.toNat), (.s, .const 0b0), (.r, .const 0b1),
    (.t, .const 0b0), (.zn, .expr zn.toNat), (.zd, .expr zd.toNat)]⟩

/-- R438 `raddhnb`: RADDHNB (rounding add narrow high part (bottom)). -/
def execRaddhnb (size : ReqInt) (zd zn zm : VReg) (s : State) : Result :=
  perform .raddhnb [requireSize [8, 16, 32] size]
    (placeRaddhnb size zd zn zm) s

/-- R439, what the default table gives `raddhnt`: format `NARROW_HIGH` (R145) and its fields. -/
def placeRaddhnt (size : ReqInt) (zd zn zm : VReg) : Placement :=
  ⟨.narrowHigh,
   [(.size, .expr (sizecode size + 1)), (.zm, .expr zm.toNat), (.s, .const 0b0), (.r, .const 0b1),
    (.t, .const 0b1), (.zn, .expr zn.toNat), (.zd, .expr zd.toNat)]⟩

/-- R439 `raddhnt`: RADDHNT (rounding add narrow high part (top)). -/
def execRaddhnt (size : ReqInt) (zd zn zm : VReg) (s : State) : Result :=
  perform .raddhnt [requireSize [8, 16, 32] size]
    (placeRaddhnt size zd zn zm) s

/-- R440, what the default table gives `subhnb`: format `NARROW_HIGH` (R145) and its fields. -/
def placeSubhnb (size : ReqInt) (zd zn zm : VReg) : Placement :=
  ⟨.narrowHigh,
   [(.size, .expr (sizecode size + 1)), (.zm, .expr zm.toNat), (.s, .const 0b1), (.r, .const 0b0),
    (.t, .const 0b0), (.zn, .expr zn.toNat), (.zd, .expr zd.toNat)]⟩

/-- R440 `subhnb`: SUBHNB (subtract narrow high part (bottom)). -/
def execSubhnb (size : ReqInt) (zd zn zm : VReg) (s : State) : Result :=
  perform .subhnb [requireSize [8, 16, 32] size]
    (placeSubhnb size zd zn zm) s

/-- R441, what the default table gives `subhnt`: format `NARROW_HIGH` (R145) and its fields. -/
def placeSubhnt (size : ReqInt) (zd zn zm : VReg) : Placement :=
  ⟨.narrowHigh,
   [(.size, .expr (sizecode size + 1)), (.zm, .expr zm.toNat), (.s, .const 0b1), (.r, .const 0b0),
    (.t, .const 0b1), (.zn, .expr zn.toNat), (.zd, .expr zd.toNat)]⟩

/-- R441 `subhnt`: SUBHNT (subtract narrow high part (top)). -/
def execSubhnt (size : ReqInt) (zd zn zm : VReg) (s : State) : Result :=
  perform .subhnt [requireSize [8, 16, 32] size]
    (placeSubhnt size zd zn zm) s

/-- R442, what the default table gives `rsubhnb`: format `NARROW_HIGH` (R145) and its fields. -/
def placeRsubhnb (size : ReqInt) (zd zn zm : VReg) : Placement :=
  ⟨.narrowHigh,
   [(.size, .expr (sizecode size + 1)), (.zm, .expr zm.toNat), (.s, .const 0b1), (.r, .const 0b1),
    (.t, .const 0b0), (.zn, .expr zn.toNat), (.zd, .expr zd.toNat)]⟩

/-- R442 `rsubhnb`: RSUBHNB (rounding subtract narrow high part (bottom)). -/
def execRsubhnb (size : ReqInt) (zd zn zm : VReg) (s : State) : Result :=
  perform .rsubhnb [requireSize [8, 16, 32] size]
    (placeRsubhnb size zd zn zm) s

/-- R443, what the default table gives `rsubhnt`: format `NARROW_HIGH` (R145) and its fields. -/
def placeRsubhnt (size : ReqInt) (zd zn zm : VReg) : Placement :=
  ⟨.narrowHigh,
   [(.size, .expr (sizecode size + 1)), (.zm, .expr zm.toNat), (.s, .const 0b1), (.r, .const 0b1),
    (.t, .const 0b1), (.zn, .expr zn.toNat), (.zd, .expr zd.toNat)]⟩

/-- R443 `rsubhnt`: RSUBHNT (rounding subtract narrow high part (top)). -/
def execRsubhnt (size : ReqInt) (zd zn zm : VReg) (s : State) : Result :=
  perform .rsubhnt [requireSize [8, 16, 32] size]
    (placeRsubhnt size zd zn zm) s

/-- R444, what the default table gives `sqshrunb`: format `SHIFT_RIGHT_NARROW` (R146) and its fields. -/
def placeSqshrunb (size : ReqInt) (zd zn : VReg) (shift : ReqInt) : Placement :=
  let t := shiftFields size.toInt shift.toInt false
  ⟨.shiftRightNarrow,
   [(.tszh, .expr ((t.high.extractLsb' 0 1).toNat)), (.tszl, .expr t.low.toNat),
    (.imm3, .expr t.res.toNat), (.op, .const 0b0), (.u, .const 0b0), (.r, .const 0b0), (.t, .const 0b0),
    (.zn, .expr zn.toNat), (.zd, .expr zd.toNat)]⟩

/-- R444 `sqshrunb`: SQSHRUNB (signed saturating shift right unsigned narrow by immediate (bottom)). -/
def execSqshrunb (size : ReqInt) (zd zn : VReg) (shift : ReqInt) (s : State) : Result :=
  perform .sqshrunb [requireSize [8, 16, 32] size, requireRightShift size.toInt shift]
    (placeSqshrunb size zd zn shift) s

/-- R445, what the default table gives `sqshrunt`: format `SHIFT_RIGHT_NARROW` (R146) and its fields. -/
def placeSqshrunt (size : ReqInt) (zd zn : VReg) (shift : ReqInt) : Placement :=
  let t := shiftFields size.toInt shift.toInt false
  ⟨.shiftRightNarrow,
   [(.tszh, .expr ((t.high.extractLsb' 0 1).toNat)), (.tszl, .expr t.low.toNat),
    (.imm3, .expr t.res.toNat), (.op, .const 0b0), (.u, .const 0b0), (.r, .const 0b0), (.t, .const 0b1),
    (.zn, .expr zn.toNat), (.zd, .expr zd.toNat)]⟩

/-- R445 `sqshrunt`: SQSHRUNT (signed saturating shift right unsigned narrow by immediate (top)). -/
def execSqshrunt (size : ReqInt) (zd zn : VReg) (shift : ReqInt) (s : State) : Result :=
  perform .sqshrunt [requireSize [8, 16, 32] size, requireRightShift size.toInt shift]
    (placeSqshrunt size zd zn shift) s

/-- R446, what the default table gives `sqrshrunb`: format `SHIFT_RIGHT_NARROW` (R146) and its fields. -/
def placeSqrshrunb (size : ReqInt) (zd zn : VReg) (shift : ReqInt) : Placement :=
  let t := shiftFields size.toInt shift.toInt false
  ⟨.shiftRightNarrow,
   [(.tszh, .expr ((t.high.extractLsb' 0 1).toNat)), (.tszl, .expr t.low.toNat),
    (.imm3, .expr t.res.toNat), (.op, .const 0b0), (.u, .const 0b0), (.r, .const 0b1), (.t, .const 0b0),
    (.zn, .expr zn.toNat), (.zd, .expr zd.toNat)]⟩

/-- R446 `sqrshrunb`: SQRSHRUNB (rounding signed saturating shift right unsigned narrow by immediate (bottom)). -/
def execSqrshrunb (size : ReqInt) (zd zn : VReg) (shift : ReqInt) (s : State) : Result :=
  perform .sqrshrunb [requireSize [8, 16, 32] size, requireRightShift size.toInt shift]
    (placeSqrshrunb size zd zn shift) s

/-- R447, what the default table gives `sqrshrunt`: format `SHIFT_RIGHT_NARROW` (R146) and its fields. -/
def placeSqrshrunt (size : ReqInt) (zd zn : VReg) (shift : ReqInt) : Placement :=
  let t := shiftFields size.toInt shift.toInt false
  ⟨.shiftRightNarrow,
   [(.tszh, .expr ((t.high.extractLsb' 0 1).toNat)), (.tszl, .expr t.low.toNat),
    (.imm3, .expr t.res.toNat), (.op, .const 0b0), (.u, .const 0b0), (.r, .const 0b1), (.t, .const 0b1),
    (.zn, .expr zn.toNat), (.zd, .expr zd.toNat)]⟩

/-- R447 `sqrshrunt`: SQRSHRUNT (rounding signed saturating shift right unsigned narrow by immediate (top)). -/
def execSqrshrunt (size : ReqInt) (zd zn : VReg) (shift : ReqInt) (s : State) : Result :=
  perform .sqrshrunt [requireSize [8, 16, 32] size, requireRightShift size.toInt shift]
    (placeSqrshrunt size zd zn shift) s

/-- R448, what the default table gives `shrnb`: format `SHIFT_RIGHT_NARROW` (R146) and its fields. -/
def placeShrnb (size : ReqInt) (zd zn : VReg) (shift : ReqInt) : Placement :=
  let t := shiftFields size.toInt shift.toInt false
  ⟨.shiftRightNarrow,
   [(.tszh, .expr ((t.high.extractLsb' 0 1).toNat)), (.tszl, .expr t.low.toNat),
    (.imm3, .expr t.res.toNat), (.op, .const 0b0), (.u, .const 0b1), (.r, .const 0b0), (.t, .const 0b0),
    (.zn, .expr zn.toNat), (.zd, .expr zd.toNat)]⟩

/-- R448 `shrnb`: SHRNB (shift right narrow by immediate (bottom)). -/
def execShrnb (size : ReqInt) (zd zn : VReg) (shift : ReqInt) (s : State) : Result :=
  perform .shrnb [requireSize [8, 16, 32] size, requireRightShift size.toInt shift]
    (placeShrnb size zd zn shift) s

/-- R449, what the default table gives `shrnt`: format `SHIFT_RIGHT_NARROW` (R146) and its fields. -/
def placeShrnt (size : ReqInt) (zd zn : VReg) (shift : ReqInt) : Placement :=
  let t := shiftFields size.toInt shift.toInt false
  ⟨.shiftRightNarrow,
   [(.tszh, .expr ((t.high.extractLsb' 0 1).toNat)), (.tszl, .expr t.low.toNat),
    (.imm3, .expr t.res.toNat), (.op, .const 0b0), (.u, .const 0b1), (.r, .const 0b0), (.t, .const 0b1),
    (.zn, .expr zn.toNat), (.zd, .expr zd.toNat)]⟩

/-- R449 `shrnt`: SHRNT (shift right narrow by immediate (top)). -/
def execShrnt (size : ReqInt) (zd zn : VReg) (shift : ReqInt) (s : State) : Result :=
  perform .shrnt [requireSize [8, 16, 32] size, requireRightShift size.toInt shift]
    (placeShrnt size zd zn shift) s

/-- R450, what the default table gives `rshrnb`: format `SHIFT_RIGHT_NARROW` (R146) and its fields. -/
def placeRshrnb (size : ReqInt) (zd zn : VReg) (shift : ReqInt) : Placement :=
  let t := shiftFields size.toInt shift.toInt false
  ⟨.shiftRightNarrow,
   [(.tszh, .expr ((t.high.extractLsb' 0 1).toNat)), (.tszl, .expr t.low.toNat),
    (.imm3, .expr t.res.toNat), (.op, .const 0b0), (.u, .const 0b1), (.r, .const 0b1), (.t, .const 0b0),
    (.zn, .expr zn.toNat), (.zd, .expr zd.toNat)]⟩

/-- R450 `rshrnb`: RSHRNB (rounding shift right narrow by immediate (bottom)). -/
def execRshrnb (size : ReqInt) (zd zn : VReg) (shift : ReqInt) (s : State) : Result :=
  perform .rshrnb [requireSize [8, 16, 32] size, requireRightShift size.toInt shift]
    (placeRshrnb size zd zn shift) s

/-- R451, what the default table gives `rshrnt`: format `SHIFT_RIGHT_NARROW` (R146) and its fields. -/
def placeRshrnt (size : ReqInt) (zd zn : VReg) (shift : ReqInt) : Placement :=
  let t := shiftFields size.toInt shift.toInt false
  ⟨.shiftRightNarrow,
   [(.tszh, .expr ((t.high.extractLsb' 0 1).toNat)), (.tszl, .expr t.low.toNat),
    (.imm3, .expr t.res.toNat), (.op, .const 0b0), (.u, .const 0b1), (.r, .const 0b1), (.t, .const 0b1),
    (.zn, .expr zn.toNat), (.zd, .expr zd.toNat)]⟩

/-- R451 `rshrnt`: RSHRNT (rounding shift right narrow by immediate (top)). -/
def execRshrnt (size : ReqInt) (zd zn : VReg) (shift : ReqInt) (s : State) : Result :=
  perform .rshrnt [requireSize [8, 16, 32] size, requireRightShift size.toInt shift]
    (placeRshrnt size zd zn shift) s

/-- R452, what the default table gives `sqshrnb`: format `SHIFT_RIGHT_NARROW` (R146) and its fields. -/
def placeSqshrnb (size : ReqInt) (zd zn : VReg) (shift : ReqInt) : Placement :=
  let t := shiftFields size.toInt shift.toInt false
  ⟨.shiftRightNarrow,
   [(.tszh, .expr ((t.high.extractLsb' 0 1).toNat)), (.tszl, .expr t.low.toNat),
    (.imm3, .expr t.res.toNat), (.op, .const 0b1), (.u, .const 0b0), (.r, .const 0b0), (.t, .const 0b0),
    (.zn, .expr zn.toNat), (.zd, .expr zd.toNat)]⟩

/-- R452 `sqshrnb`: SQSHRNB (signed saturating shift right narrow by immediate (bottom)). -/
def execSqshrnb (size : ReqInt) (zd zn : VReg) (shift : ReqInt) (s : State) : Result :=
  perform .sqshrnb [requireSize [8, 16, 32] size, requireRightShift size.toInt shift]
    (placeSqshrnb size zd zn shift) s

/-- R453, what the default table gives `sqshrnt`: format `SHIFT_RIGHT_NARROW` (R146) and its fields. -/
def placeSqshrnt (size : ReqInt) (zd zn : VReg) (shift : ReqInt) : Placement :=
  let t := shiftFields size.toInt shift.toInt false
  ⟨.shiftRightNarrow,
   [(.tszh, .expr ((t.high.extractLsb' 0 1).toNat)), (.tszl, .expr t.low.toNat),
    (.imm3, .expr t.res.toNat), (.op, .const 0b1), (.u, .const 0b0), (.r, .const 0b0), (.t, .const 0b1),
    (.zn, .expr zn.toNat), (.zd, .expr zd.toNat)]⟩

/-- R453 `sqshrnt`: SQSHRNT (signed saturating shift right narrow by immediate (top)). -/
def execSqshrnt (size : ReqInt) (zd zn : VReg) (shift : ReqInt) (s : State) : Result :=
  perform .sqshrnt [requireSize [8, 16, 32] size, requireRightShift size.toInt shift]
    (placeSqshrnt size zd zn shift) s

/-- R454, what the default table gives `sqrshrnb`: format `SHIFT_RIGHT_NARROW` (R146) and its fields. -/
def placeSqrshrnb (size : ReqInt) (zd zn : VReg) (shift : ReqInt) : Placement :=
  let t := shiftFields size.toInt shift.toInt false
  ⟨.shiftRightNarrow,
   [(.tszh, .expr ((t.high.extractLsb' 0 1).toNat)), (.tszl, .expr t.low.toNat),
    (.imm3, .expr t.res.toNat), (.op, .const 0b1), (.u, .const 0b0), (.r, .const 0b1), (.t, .const 0b0),
    (.zn, .expr zn.toNat), (.zd, .expr zd.toNat)]⟩

/-- R454 `sqrshrnb`: SQRSHRNB (rounding signed saturating shift right narrow by immediate (bottom)). -/
def execSqrshrnb (size : ReqInt) (zd zn : VReg) (shift : ReqInt) (s : State) : Result :=
  perform .sqrshrnb [requireSize [8, 16, 32] size, requireRightShift size.toInt shift]
    (placeSqrshrnb size zd zn shift) s

/-- R455, what the default table gives `sqrshrnt`: format `SHIFT_RIGHT_NARROW` (R146) and its fields. -/
def placeSqrshrnt (size : ReqInt) (zd zn : VReg) (shift : ReqInt) : Placement :=
  let t := shiftFields size.toInt shift.toInt false
  ⟨.shiftRightNarrow,
   [(.tszh, .expr ((t.high.extractLsb' 0 1).toNat)), (.tszl, .expr t.low.toNat),
    (.imm3, .expr t.res.toNat), (.op, .const 0b1), (.u, .const 0b0), (.r, .const 0b1), (.t, .const 0b1),
    (.zn, .expr zn.toNat), (.zd, .expr zd.toNat)]⟩

/-- R455 `sqrshrnt`: SQRSHRNT (rounding signed saturating shift right narrow by immediate (top)). -/
def execSqrshrnt (size : ReqInt) (zd zn : VReg) (shift : ReqInt) (s : State) : Result :=
  perform .sqrshrnt [requireSize [8, 16, 32] size, requireRightShift size.toInt shift]
    (placeSqrshrnt size zd zn shift) s

/-- R456, what the default table gives `uqshrnb`: format `SHIFT_RIGHT_NARROW` (R146) and its fields. -/
def placeUqshrnb (size : ReqInt) (zd zn : VReg) (shift : ReqInt) : Placement :=
  let t := shiftFields size.toInt shift.toInt false
  ⟨.shiftRightNarrow,
   [(.tszh, .expr ((t.high.extractLsb' 0 1).toNat)), (.tszl, .expr t.low.toNat),
    (.imm3, .expr t.res.toNat), (.op, .const 0b1), (.u, .const 0b1), (.r, .const 0b0), (.t, .const 0b0),
    (.zn, .expr zn.toNat), (.zd, .expr zd.toNat)]⟩

/-- R456 `uqshrnb`: UQSHRNB (unsigned saturating shift right narrow by immediate (bottom)). -/
def execUqshrnb (size : ReqInt) (zd zn : VReg) (shift : ReqInt) (s : State) : Result :=
  perform .uqshrnb [requireSize [8, 16, 32] size, requireRightShift size.toInt shift]
    (placeUqshrnb size zd zn shift) s

/-- R457, what the default table gives `uqshrnt`: format `SHIFT_RIGHT_NARROW` (R146) and its fields. -/
def placeUqshrnt (size : ReqInt) (zd zn : VReg) (shift : ReqInt) : Placement :=
  let t := shiftFields size.toInt shift.toInt false
  ⟨.shiftRightNarrow,
   [(.tszh, .expr ((t.high.extractLsb' 0 1).toNat)), (.tszl, .expr t.low.toNat),
    (.imm3, .expr t.res.toNat), (.op, .const 0b1), (.u, .const 0b1), (.r, .const 0b0), (.t, .const 0b1),
    (.zn, .expr zn.toNat), (.zd, .expr zd.toNat)]⟩

/-- R457 `uqshrnt`: UQSHRNT (unsigned saturating shift right narrow by immediate (top)). -/
def execUqshrnt (size : ReqInt) (zd zn : VReg) (shift : ReqInt) (s : State) : Result :=
  perform .uqshrnt [requireSize [8, 16, 32] size, requireRightShift size.toInt shift]
    (placeUqshrnt size zd zn shift) s

/-- R458, what the default table gives `uqrshrnb`: format `SHIFT_RIGHT_NARROW` (R146) and its fields. -/
def placeUqrshrnb (size : ReqInt) (zd zn : VReg) (shift : ReqInt) : Placement :=
  let t := shiftFields size.toInt shift.toInt false
  ⟨.shiftRightNarrow,
   [(.tszh, .expr ((t.high.extractLsb' 0 1).toNat)), (.tszl, .expr t.low.toNat),
    (.imm3, .expr t.res.toNat), (.op, .const 0b1), (.u, .const 0b1), (.r, .const 0b1), (.t, .const 0b0),
    (.zn, .expr zn.toNat), (.zd, .expr zd.toNat)]⟩

/-- R458 `uqrshrnb`: UQRSHRNB (rounding unsigned saturating shift right narrow by immediate (bottom)). -/
def execUqrshrnb (size : ReqInt) (zd zn : VReg) (shift : ReqInt) (s : State) : Result :=
  perform .uqrshrnb [requireSize [8, 16, 32] size, requireRightShift size.toInt shift]
    (placeUqrshrnb size zd zn shift) s

/-- R459, what the default table gives `uqrshrnt`: format `SHIFT_RIGHT_NARROW` (R146) and its fields. -/
def placeUqrshrnt (size : ReqInt) (zd zn : VReg) (shift : ReqInt) : Placement :=
  let t := shiftFields size.toInt shift.toInt false
  ⟨.shiftRightNarrow,
   [(.tszh, .expr ((t.high.extractLsb' 0 1).toNat)), (.tszl, .expr t.low.toNat),
    (.imm3, .expr t.res.toNat), (.op, .const 0b1), (.u, .const 0b1), (.r, .const 0b1), (.t, .const 0b1),
    (.zn, .expr zn.toNat), (.zd, .expr zd.toNat)]⟩

/-- R459 `uqrshrnt`: UQRSHRNT (rounding unsigned saturating shift right narrow by immediate (top)). -/
def execUqrshrnt (size : ReqInt) (zd zn : VReg) (shift : ReqInt) (s : State) : Result :=
  perform .uqrshrnt [requireSize [8, 16, 32] size, requireRightShift size.toInt shift]
    (placeUqrshrnt size zd zn shift) s

/-- R460, what the default table gives `ssra`: format `SHIFT_RIGHT_ACC` (R147) and its fields. -/
def placeSsra (size : ReqInt) (zda zn : VReg) (shift : ReqInt) : Placement :=
  let t := shiftFields size.toInt shift.toInt false
  ⟨.shiftRightAcc,
   [(.tszh, .expr t.high.toNat), (.tszl, .expr t.low.toNat), (.imm3, .expr t.res.toNat),
    (.r, .const 0b0), (.u, .const 0b0), (.zn, .expr zn.toNat), (.zda, .expr zda.toNat)]⟩

/-- R460 `ssra`: SSRA (signed shift right and accumulate). -/
def execSsra (size : ReqInt) (zda zn : VReg) (shift : ReqInt) (s : State) : Result :=
  perform .ssra [requireSize [8, 16, 32, 64] size, requireRightShift size.toInt shift]
    (placeSsra size zda zn shift) s

/-- R461, what the default table gives `usra`: format `SHIFT_RIGHT_ACC` (R147) and its fields. -/
def placeUsra (size : ReqInt) (zda zn : VReg) (shift : ReqInt) : Placement :=
  let t := shiftFields size.toInt shift.toInt false
  ⟨.shiftRightAcc,
   [(.tszh, .expr t.high.toNat), (.tszl, .expr t.low.toNat), (.imm3, .expr t.res.toNat),
    (.r, .const 0b0), (.u, .const 0b1), (.zn, .expr zn.toNat), (.zda, .expr zda.toNat)]⟩

/-- R461 `usra`: USRA (unsigned shift right and accumulate). -/
def execUsra (size : ReqInt) (zda zn : VReg) (shift : ReqInt) (s : State) : Result :=
  perform .usra [requireSize [8, 16, 32, 64] size, requireRightShift size.toInt shift]
    (placeUsra size zda zn shift) s

/-- R462, what the default table gives `srsra`: format `SHIFT_RIGHT_ACC` (R147) and its fields. -/
def placeSrsra (size : ReqInt) (zda zn : VReg) (shift : ReqInt) : Placement :=
  let t := shiftFields size.toInt shift.toInt false
  ⟨.shiftRightAcc,
   [(.tszh, .expr t.high.toNat), (.tszl, .expr t.low.toNat), (.imm3, .expr t.res.toNat),
    (.r, .const 0b1), (.u, .const 0b0), (.zn, .expr zn.toNat), (.zda, .expr zda.toNat)]⟩

/-- R462 `srsra`: SRSRA (signed rounding shift right and accumulate). -/
def execSrsra (size : ReqInt) (zda zn : VReg) (shift : ReqInt) (s : State) : Result :=
  perform .srsra [requireSize [8, 16, 32, 64] size, requireRightShift size.toInt shift]
    (placeSrsra size zda zn shift) s

/-- R463, what the default table gives `ursra`: format `SHIFT_RIGHT_ACC` (R147) and its fields. -/
def placeUrsra (size : ReqInt) (zda zn : VReg) (shift : ReqInt) : Placement :=
  let t := shiftFields size.toInt shift.toInt false
  ⟨.shiftRightAcc,
   [(.tszh, .expr t.high.toNat), (.tszl, .expr t.low.toNat), (.imm3, .expr t.res.toNat),
    (.r, .const 0b1), (.u, .const 0b1), (.zn, .expr zn.toNat), (.zda, .expr zda.toNat)]⟩

/-- R463 `ursra`: URSRA (unsigned rounding shift right and accumulate). -/
def execUrsra (size : ReqInt) (zda zn : VReg) (shift : ReqInt) (s : State) : Result :=
  perform .ursra [requireSize [8, 16, 32, 64] size, requireRightShift size.toInt shift]
    (placeUrsra size zda zn shift) s

/-- R464, what the default table gives `sri`: format `SHIFT_INSERT` (R148) and its fields. -/
def placeSri (size : ReqInt) (zd zn : VReg) (shift : ReqInt) : Placement :=
  let t := shiftFields size.toInt shift.toInt false
  ⟨.shiftInsert,
   [(.tszh, .expr t.high.toNat), (.tszl, .expr t.low.toNat), (.imm3, .expr t.res.toNat),
    (.op, .const 0b0), (.zn, .expr zn.toNat), (.zd, .expr zd.toNat)]⟩

/-- R464 `sri`: SRI (shift right and insert). -/
def execSri (size : ReqInt) (zd zn : VReg) (shift : ReqInt) (s : State) : Result :=
  perform .sri [requireSize [8, 16, 32, 64] size, requireRightShift size.toInt shift]
    (placeSri size zd zn shift) s

/-- R465, what the default table gives `sli`: format `SHIFT_INSERT` (R148) and its fields. -/
def placeSli (size : ReqInt) (zd zn : VReg) (shift : ReqInt) : Placement :=
  let t := shiftFields size.toInt shift.toInt true
  ⟨.shiftInsert,
   [(.tszh, .expr t.high.toNat), (.tszl, .expr t.low.toNat), (.imm3, .expr t.res.toNat),
    (.op, .const 0b1), (.zn, .expr zn.toNat), (.zd, .expr zd.toNat)]⟩

/-- R465 `sli`: SLI (shift left and insert). -/
def execSli (size : ReqInt) (zd zn : VReg) (shift : ReqInt) (s : State) : Result :=
  perform .sli [requireSize [8, 16, 32, 64] size, requireLeftShift size.toInt shift]
    (placeSli size zd zn shift) s

end Sys2Proof.Machine
end

