-- ==== Sys2Proof/Machine/Dispatch.lean ====
section
/-! DEFINITION. exec: one arm per constructor of Instr, each one call of the operation's meaning. -/

namespace Sys2Proof.Machine

def exec (i : Instr) (s : State) : Host.Outcome State Fault Refusal :=
  match i with
  -- IntegerArith
  | .addUnpred size zd zn zm => Sys2Proof.Machine.execAddUnpred size zd zn zm s
  | .subUnpred size zd zn zm => Sys2Proof.Machine.execSubUnpred size zd zn zm s
  | .sqaddUnpred size zd zn zm => Sys2Proof.Machine.execSqaddUnpred size zd zn zm s
  | .uqaddUnpred size zd zn zm => Sys2Proof.Machine.execUqaddUnpred size zd zn zm s
  | .sqsubUnpred size zd zn zm => Sys2Proof.Machine.execSqsubUnpred size zd zn zm s
  | .uqsubUnpred size zd zn zm => Sys2Proof.Machine.execUqsubUnpred size zd zn zm s
  | .addPred size zd pg zn zm => Sys2Proof.Machine.execAddPred size zd pg zn zm s
  | .subPred size zd pg zn zm => Sys2Proof.Machine.execSubPred size zd pg zn zm s
  | .subrPred size zd pg zn zm => Sys2Proof.Machine.execSubrPred size zd pg zn zm s
  | .smaxPred size zd pg zn zm => Sys2Proof.Machine.execSmaxPred size zd pg zn zm s
  | .umaxPred size zd pg zn zm => Sys2Proof.Machine.execUmaxPred size zd pg zn zm s
  | .sminPred size zd pg zn zm => Sys2Proof.Machine.execSminPred size zd pg zn zm s
  | .uminPred size zd pg zn zm => Sys2Proof.Machine.execUminPred size zd pg zn zm s
  | .sabdPred size zd pg zn zm => Sys2Proof.Machine.execSabdPred size zd pg zn zm s
  | .uabdPred size zd pg zn zm => Sys2Proof.Machine.execUabdPred size zd pg zn zm s
  | .orrPred size zd pg zn zm => Sys2Proof.Machine.execOrrPred size zd pg zn zm s
  | .eorPred size zd pg zn zm => Sys2Proof.Machine.execEorPred size zd pg zn zm s
  | .andPred size zd pg zn zm => Sys2Proof.Machine.execAndPred size zd pg zn zm s
  | .bicPred size zd pg zn zm => Sys2Proof.Machine.execBicPred size zd pg zn zm s
  | .andUnpred zd zn zm => Sys2Proof.Machine.execAndUnpred zd zn zm s
  | .orrUnpred zd zn zm => Sys2Proof.Machine.execOrrUnpred zd zn zm s
  | .eorUnpred zd zn zm => Sys2Proof.Machine.execEorUnpred zd zn zm s
  | .bicUnpred zd zn zm => Sys2Proof.Machine.execBicUnpred zd zn zm s
  | .cadd size zd zn zm rot => Sys2Proof.Machine.execCadd size zd zn zm rot s
  | .sqcadd size zd zn zm rot => Sys2Proof.Machine.execSqcadd size zd zn zm rot s
  | .cmla size zda zn zm rot => Sys2Proof.Machine.execCmla size zda zn zm rot s
  -- Compare
  | .cmpgeImm size pd pg zn imm => Sys2Proof.Machine.execCmpgeImm size pd pg zn imm s
  | .cmpgtImm size pd pg zn imm => Sys2Proof.Machine.execCmpgtImm size pd pg zn imm s
  | .cmpltImm size pd pg zn imm => Sys2Proof.Machine.execCmpltImm size pd pg zn imm s
  | .cmpleImm size pd pg zn imm => Sys2Proof.Machine.execCmpleImm size pd pg zn imm s
  | .cmpeqImm size pd pg zn imm => Sys2Proof.Machine.execCmpeqImm size pd pg zn imm s
  | .cmpneImm size pd pg zn imm => Sys2Proof.Machine.execCmpneImm size pd pg zn imm s
  | .cmphsImm size pd pg zn imm => Sys2Proof.Machine.execCmphsImm size pd pg zn imm s
  | .cmphiImm size pd pg zn imm => Sys2Proof.Machine.execCmphiImm size pd pg zn imm s
  | .cmploImm size pd pg zn imm => Sys2Proof.Machine.execCmploImm size pd pg zn imm s
  | .cmplsImm size pd pg zn imm => Sys2Proof.Machine.execCmplsImm size pd pg zn imm s
  | .cmphsVec size pd pg zn zm => Sys2Proof.Machine.execCmphsVec size pd pg zn zm s
  | .cmphiVec size pd pg zn zm => Sys2Proof.Machine.execCmphiVec size pd pg zn zm s
  | .cmpgeVec size pd pg zn zm => Sys2Proof.Machine.execCmpgeVec size pd pg zn zm s
  | .cmpgtVec size pd pg zn zm => Sys2Proof.Machine.execCmpgtVec size pd pg zn zm s
  | .cmpeqVec size pd pg zn zm => Sys2Proof.Machine.execCmpeqVec size pd pg zn zm s
  | .cmpneVec size pd pg zn zm => Sys2Proof.Machine.execCmpneVec size pd pg zn zm s
  -- Permute
  | .zip1 size zd zn zm => Sys2Proof.Machine.execZip1 size zd zn zm s
  | .zip2 size zd zn zm => Sys2Proof.Machine.execZip2 size zd zn zm s
  | .uzp1 size zd zn zm => Sys2Proof.Machine.execUzp1 size zd zn zm s
  | .uzp2 size zd zn zm => Sys2Proof.Machine.execUzp2 size zd zn zm s
  | .trn1 size zd zn zm => Sys2Proof.Machine.execTrn1 size zd zn zm s
  | .trn2 size zd zn zm => Sys2Proof.Machine.execTrn2 size zd zn zm s
  | .tbl size zd zn zm => Sys2Proof.Machine.execTbl size zd zn zm s
  | .tbx size zd zn zm => Sys2Proof.Machine.execTbx size zd zn zm s
  | .dupIndexed size zd zn index => Sys2Proof.Machine.execDupIndexed size zd zn index s
  | .extDestructive zd zn zm imm => Sys2Proof.Machine.execExtDestructive zd zn zm imm s
  | .extConstructive zd zn zm imm => Sys2Proof.Machine.execExtConstructive zd zn zm imm s
  | .spliceDestructive size zd pv zn zm => Sys2Proof.Machine.execSpliceDestructive size zd pv zn zm s
  | .spliceConstructive size zd pv zn zm => Sys2Proof.Machine.execSpliceConstructive size zd pv zn zm s
  -- MulDivReduction
  | .mulPred size zd pg zn zm => Sys2Proof.Machine.execMulPred size zd pg zn zm s
  | .smulhPred size zd pg zn zm => Sys2Proof.Machine.execSmulhPred size zd pg zn zm s
  | .umulhPred size zd pg zn zm => Sys2Proof.Machine.execUmulhPred size zd pg zn zm s
  | .sdivPred size zd pg zn zm => Sys2Proof.Machine.execSdivPred size zd pg zn zm s
  | .udivPred size zd pg zn zm => Sys2Proof.Machine.execUdivPred size zd pg zn zm s
  | .sdivrPred size zd pg zn zm => Sys2Proof.Machine.execSdivrPred size zd pg zn zm s
  | .udivrPred size zd pg zn zm => Sys2Proof.Machine.execUdivrPred size zd pg zn zm s
  | .saddv size vd pg zn => Sys2Proof.Machine.execSaddv size vd pg zn s
  | .uaddv size vd pg zn => Sys2Proof.Machine.execUaddv size vd pg zn s
  | .smaxv size vd pg zn => Sys2Proof.Machine.execSmaxv size vd pg zn s
  | .umaxv size vd pg zn => Sys2Proof.Machine.execUmaxv size vd pg zn s
  | .sminv size vd pg zn => Sys2Proof.Machine.execSminv size vd pg zn s
  | .uminv size vd pg zn => Sys2Proof.Machine.execUminv size vd pg zn s
  | .orv size vd pg zn => Sys2Proof.Machine.execOrv size vd pg zn s
  | .eorv size vd pg zn => Sys2Proof.Machine.execEorv size vd pg zn s
  | .andv size vd pg zn => Sys2Proof.Machine.execAndv size vd pg zn s
  -- Predicate
  | .andP pd pg pn pm => Sys2Proof.Machine.execAndP pd pg pn pm s
  | .bicP pd pg pn pm => Sys2Proof.Machine.execBicP pd pg pn pm s
  | .eorP pd pg pn pm => Sys2Proof.Machine.execEorP pd pg pn pm s
  | .selP pd pg pn pm => Sys2Proof.Machine.execSelP pd pg pn pm s
  | .orrP pd pg pn pm => Sys2Proof.Machine.execOrrP pd pg pn pm s
  | .ornP pd pg pn pm => Sys2Proof.Machine.execOrnP pd pg pn pm s
  | .norP pd pg pn pm => Sys2Proof.Machine.execNorP pd pg pn pm s
  | .nandP pd pg pn pm => Sys2Proof.Machine.execNandP pd pg pn pm s
  | .andsP pd pg pn pm => Sys2Proof.Machine.execAndsP pd pg pn pm s
  | .bicsP pd pg pn pm => Sys2Proof.Machine.execBicsP pd pg pn pm s
  | .eorsP pd pg pn pm => Sys2Proof.Machine.execEorsP pd pg pn pm s
  | .orrsP pd pg pn pm => Sys2Proof.Machine.execOrrsP pd pg pn pm s
  | .ornsP pd pg pn pm => Sys2Proof.Machine.execOrnsP pd pg pn pm s
  | .norsP pd pg pn pm => Sys2Proof.Machine.execNorsP pd pg pn pm s
  | .nandsP pd pg pn pm => Sys2Proof.Machine.execNandsP pd pg pn pm s
  | .brkpa pd pg pn pm => Sys2Proof.Machine.execBrkpa pd pg pn pm s
  | .brkpb pd pg pn pm => Sys2Proof.Machine.execBrkpb pd pg pn pm s
  | .brkpas pd pg pn pm => Sys2Proof.Machine.execBrkpas pd pg pn pm s
  | .brkpbs pd pg pn pm => Sys2Proof.Machine.execBrkpbs pd pg pn pm s
  | .brka pd pg pn => Sys2Proof.Machine.execBrka pd pg pn s
  | .brkas pd pg pn => Sys2Proof.Machine.execBrkas pd pg pn s
  | .brkb pd pg pn => Sys2Proof.Machine.execBrkb pd pg pn s
  | .brkbs pd pg pn => Sys2Proof.Machine.execBrkbs pd pg pn s
  | .brkn pd pg pn pm => Sys2Proof.Machine.execBrkn pd pg pn pm s
  | .brkns pd pg pn pm => Sys2Proof.Machine.execBrkns pd pg pn pm s
  | .ptrue size pd pattern => Sys2Proof.Machine.execPtrue size pd pattern s
  | .ptrues size pd pattern => Sys2Proof.Machine.execPtrues size pd pattern s
  | .pfalse pd => Sys2Proof.Machine.execPfalse pd s
  | .ptest pg pn => Sys2Proof.Machine.execPtest pg pn s
  | .pfirst pd pg pn => Sys2Proof.Machine.execPfirst pd pg pn s
  | .pnext size pd pg pn => Sys2Proof.Machine.execPnext size pd pg pn s
  | .rdffrUnpred pd => Sys2Proof.Machine.execRdffrUnpred pd s
  | .rdffrPred pd pg => Sys2Proof.Machine.execRdffrPred pd pg s
  | .rdffrsPred pd pg => Sys2Proof.Machine.execRdffrsPred pd pg s
  | .setffr => Sys2Proof.Machine.execSetffr s
  | .wrffr pn => Sys2Proof.Machine.execWrffr pn s
  -- ContiguousMemory
  | .ld1bSs size zt pg rn rm => Sys2Proof.Machine.execLd1bSs size zt pg rn rm s
  | .ld1bSi size zt pg rn imm => Sys2Proof.Machine.execLd1bSi size zt pg rn imm s
  | .ld1swSs size zt pg rn rm => Sys2Proof.Machine.execLd1swSs size zt pg rn rm s
  | .ld1swSi size zt pg rn imm => Sys2Proof.Machine.execLd1swSi size zt pg rn imm s
  | .ld1hSs size zt pg rn rm => Sys2Proof.Machine.execLd1hSs size zt pg rn rm s
  | .ld1hSi size zt pg rn imm => Sys2Proof.Machine.execLd1hSi size zt pg rn imm s
  | .ld1shSs size zt pg rn rm => Sys2Proof.Machine.execLd1shSs size zt pg rn rm s
  | .ld1shSi size zt pg rn imm => Sys2Proof.Machine.execLd1shSi size zt pg rn imm s
  | .ld1wSs size zt pg rn rm => Sys2Proof.Machine.execLd1wSs size zt pg rn rm s
  | .ld1wSi size zt pg rn imm => Sys2Proof.Machine.execLd1wSi size zt pg rn imm s
  | .ld1sbSs size zt pg rn rm => Sys2Proof.Machine.execLd1sbSs size zt pg rn rm s
  | .ld1sbSi size zt pg rn imm => Sys2Proof.Machine.execLd1sbSi size zt pg rn imm s
  | .ld1dSs size zt pg rn rm => Sys2Proof.Machine.execLd1dSs size zt pg rn rm s
  | .ld1dSi size zt pg rn imm => Sys2Proof.Machine.execLd1dSi size zt pg rn imm s
  | .st1bSs size zt pg rn rm => Sys2Proof.Machine.execSt1bSs size zt pg rn rm s
  | .st1bSi size zt pg rn imm => Sys2Proof.Machine.execSt1bSi size zt pg rn imm s
  | .st1hSs size zt pg rn rm => Sys2Proof.Machine.execSt1hSs size zt pg rn rm s
  | .st1hSi size zt pg rn imm => Sys2Proof.Machine.execSt1hSi size zt pg rn imm s
  | .st1wSs size zt pg rn rm => Sys2Proof.Machine.execSt1wSs size zt pg rn rm s
  | .st1wSi size zt pg rn imm => Sys2Proof.Machine.execSt1wSi size zt pg rn imm s
  | .st1dSs size zt pg rn rm => Sys2Proof.Machine.execSt1dSs size zt pg rn rm s
  | .st1dSi size zt pg rn imm => Sys2Proof.Machine.execSt1dSi size zt pg rn imm s
  -- StructuredLoad
  | .ld2bSs zt1 zt2 pg rn rm => Sys2Proof.Machine.execLd2bSs zt1 zt2 pg rn rm s
  | .ld2bSi zt1 zt2 pg rn imm => Sys2Proof.Machine.execLd2bSi zt1 zt2 pg rn imm s
  | .ld2hSs zt1 zt2 pg rn rm => Sys2Proof.Machine.execLd2hSs zt1 zt2 pg rn rm s
  | .ld2hSi zt1 zt2 pg rn imm => Sys2Proof.Machine.execLd2hSi zt1 zt2 pg rn imm s
  | .ld2wSs zt1 zt2 pg rn rm => Sys2Proof.Machine.execLd2wSs zt1 zt2 pg rn rm s
  | .ld2wSi zt1 zt2 pg rn imm => Sys2Proof.Machine.execLd2wSi zt1 zt2 pg rn imm s
  | .ld2dSs zt1 zt2 pg rn rm => Sys2Proof.Machine.execLd2dSs zt1 zt2 pg rn rm s
  | .ld2dSi zt1 zt2 pg rn imm => Sys2Proof.Machine.execLd2dSi zt1 zt2 pg rn imm s
  | .ld3bSs zt1 zt2 zt3 pg rn rm => Sys2Proof.Machine.execLd3bSs zt1 zt2 zt3 pg rn rm s
  | .ld3bSi zt1 zt2 zt3 pg rn imm => Sys2Proof.Machine.execLd3bSi zt1 zt2 zt3 pg rn imm s
  | .ld3hSs zt1 zt2 zt3 pg rn rm => Sys2Proof.Machine.execLd3hSs zt1 zt2 zt3 pg rn rm s
  | .ld3hSi zt1 zt2 zt3 pg rn imm => Sys2Proof.Machine.execLd3hSi zt1 zt2 zt3 pg rn imm s
  | .ld3wSs zt1 zt2 zt3 pg rn rm => Sys2Proof.Machine.execLd3wSs zt1 zt2 zt3 pg rn rm s
  | .ld3wSi zt1 zt2 zt3 pg rn imm => Sys2Proof.Machine.execLd3wSi zt1 zt2 zt3 pg rn imm s
  | .ld3dSs zt1 zt2 zt3 pg rn rm => Sys2Proof.Machine.execLd3dSs zt1 zt2 zt3 pg rn rm s
  | .ld3dSi zt1 zt2 zt3 pg rn imm => Sys2Proof.Machine.execLd3dSi zt1 zt2 zt3 pg rn imm s
  | .ld4bSs zt1 zt2 zt3 zt4 pg rn rm => Sys2Proof.Machine.execLd4bSs zt1 zt2 zt3 zt4 pg rn rm s
  | .ld4bSi zt1 zt2 zt3 zt4 pg rn imm => Sys2Proof.Machine.execLd4bSi zt1 zt2 zt3 zt4 pg rn imm s
  | .ld4hSs zt1 zt2 zt3 zt4 pg rn rm => Sys2Proof.Machine.execLd4hSs zt1 zt2 zt3 zt4 pg rn rm s
  | .ld4hSi zt1 zt2 zt3 zt4 pg rn imm => Sys2Proof.Machine.execLd4hSi zt1 zt2 zt3 zt4 pg rn imm s
  | .ld4wSs zt1 zt2 zt3 zt4 pg rn rm => Sys2Proof.Machine.execLd4wSs zt1 zt2 zt3 zt4 pg rn rm s
  | .ld4wSi zt1 zt2 zt3 zt4 pg rn imm => Sys2Proof.Machine.execLd4wSi zt1 zt2 zt3 zt4 pg rn imm s
  | .ld4dSs zt1 zt2 zt3 zt4 pg rn rm => Sys2Proof.Machine.execLd4dSs zt1 zt2 zt3 zt4 pg rn rm s
  | .ld4dSi zt1 zt2 zt3 zt4 pg rn imm => Sys2Proof.Machine.execLd4dSi zt1 zt2 zt3 zt4 pg rn imm s
  -- StructuredStore
  | .st2bSs zt1 zt2 pg rn rm => Sys2Proof.Machine.execSt2bSs zt1 zt2 pg rn rm s
  | .st2bSi zt1 zt2 pg rn imm => Sys2Proof.Machine.execSt2bSi zt1 zt2 pg rn imm s
  | .st2hSs zt1 zt2 pg rn rm => Sys2Proof.Machine.execSt2hSs zt1 zt2 pg rn rm s
  | .st2hSi zt1 zt2 pg rn imm => Sys2Proof.Machine.execSt2hSi zt1 zt2 pg rn imm s
  | .st2wSs zt1 zt2 pg rn rm => Sys2Proof.Machine.execSt2wSs zt1 zt2 pg rn rm s
  | .st2wSi zt1 zt2 pg rn imm => Sys2Proof.Machine.execSt2wSi zt1 zt2 pg rn imm s
  | .st2dSs zt1 zt2 pg rn rm => Sys2Proof.Machine.execSt2dSs zt1 zt2 pg rn rm s
  | .st2dSi zt1 zt2 pg rn imm => Sys2Proof.Machine.execSt2dSi zt1 zt2 pg rn imm s
  | .st3bSs zt1 zt2 zt3 pg rn rm => Sys2Proof.Machine.execSt3bSs zt1 zt2 zt3 pg rn rm s
  | .st3bSi zt1 zt2 zt3 pg rn imm => Sys2Proof.Machine.execSt3bSi zt1 zt2 zt3 pg rn imm s
  | .st3hSs zt1 zt2 zt3 pg rn rm => Sys2Proof.Machine.execSt3hSs zt1 zt2 zt3 pg rn rm s
  | .st3hSi zt1 zt2 zt3 pg rn imm => Sys2Proof.Machine.execSt3hSi zt1 zt2 zt3 pg rn imm s
  | .st3wSs zt1 zt2 zt3 pg rn rm => Sys2Proof.Machine.execSt3wSs zt1 zt2 zt3 pg rn rm s
  | .st3wSi zt1 zt2 zt3 pg rn imm => Sys2Proof.Machine.execSt3wSi zt1 zt2 zt3 pg rn imm s
  | .st3dSs zt1 zt2 zt3 pg rn rm => Sys2Proof.Machine.execSt3dSs zt1 zt2 zt3 pg rn rm s
  | .st3dSi zt1 zt2 zt3 pg rn imm => Sys2Proof.Machine.execSt3dSi zt1 zt2 zt3 pg rn imm s
  | .st4bSs zt1 zt2 zt3 zt4 pg rn rm => Sys2Proof.Machine.execSt4bSs zt1 zt2 zt3 zt4 pg rn rm s
  | .st4bSi zt1 zt2 zt3 zt4 pg rn imm => Sys2Proof.Machine.execSt4bSi zt1 zt2 zt3 zt4 pg rn imm s
  | .st4hSs zt1 zt2 zt3 zt4 pg rn rm => Sys2Proof.Machine.execSt4hSs zt1 zt2 zt3 zt4 pg rn rm s
  | .st4hSi zt1 zt2 zt3 zt4 pg rn imm => Sys2Proof.Machine.execSt4hSi zt1 zt2 zt3 zt4 pg rn imm s
  | .st4wSs zt1 zt2 zt3 zt4 pg rn rm => Sys2Proof.Machine.execSt4wSs zt1 zt2 zt3 zt4 pg rn rm s
  | .st4wSi zt1 zt2 zt3 zt4 pg rn imm => Sys2Proof.Machine.execSt4wSi zt1 zt2 zt3 zt4 pg rn imm s
  | .st4dSs zt1 zt2 zt3 zt4 pg rn rm => Sys2Proof.Machine.execSt4dSs zt1 zt2 zt3 zt4 pg rn rm s
  | .st4dSi zt1 zt2 zt3 zt4 pg rn imm => Sys2Proof.Machine.execSt4dSi zt1 zt2 zt3 zt4 pg rn imm s
  -- Shift
  | .asrImmPred size zd pg zn shift => Sys2Proof.Machine.execAsrImmPred size zd pg zn shift s
  | .lsrImmPred size zd pg zn shift => Sys2Proof.Machine.execLsrImmPred size zd pg zn shift s
  | .lslImmPred size zd pg zn shift => Sys2Proof.Machine.execLslImmPred size zd pg zn shift s
  | .asrdImmPred size zd pg zn shift => Sys2Proof.Machine.execAsrdImmPred size zd pg zn shift s
  | .sqshlImmPred size zd pg zn shift => Sys2Proof.Machine.execSqshlImmPred size zd pg zn shift s
  | .uqshlImmPred size zd pg zn shift => Sys2Proof.Machine.execUqshlImmPred size zd pg zn shift s
  | .srshrImmPred size zd pg zn shift => Sys2Proof.Machine.execSrshrImmPred size zd pg zn shift s
  | .urshrImmPred size zd pg zn shift => Sys2Proof.Machine.execUrshrImmPred size zd pg zn shift s
  | .sqshluImmPred size zd pg zn shift => Sys2Proof.Machine.execSqshluImmPred size zd pg zn shift s
  | .asrImmUnpred size zd zn shift => Sys2Proof.Machine.execAsrImmUnpred size zd zn shift s
  | .lsrImmUnpred size zd zn shift => Sys2Proof.Machine.execLsrImmUnpred size zd zn shift s
  | .lslImmUnpred size zd zn shift => Sys2Proof.Machine.execLslImmUnpred size zd zn shift s
  | .asrVecPred size zd pg zn zm => Sys2Proof.Machine.execAsrVecPred size zd pg zn zm s
  | .lsrVecPred size zd pg zn zm => Sys2Proof.Machine.execLsrVecPred size zd pg zn zm s
  | .lslVecPred size zd pg zn zm => Sys2Proof.Machine.execLslVecPred size zd pg zn zm s
  | .asrrVecPred size zd pg zn zm => Sys2Proof.Machine.execAsrrVecPred size zd pg zn zm s
  | .lsrrVecPred size zd pg zn zm => Sys2Proof.Machine.execLsrrVecPred size zd pg zn zm s
  | .lslrVecPred size zd pg zn zm => Sys2Proof.Machine.execLslrVecPred size zd pg zn zm s
  | .asrWidePred size zd pg zn zm => Sys2Proof.Machine.execAsrWidePred size zd pg zn zm s
  | .lsrWidePred size zd pg zn zm => Sys2Proof.Machine.execLsrWidePred size zd pg zn zm s
  | .lslWidePred size zd pg zn zm => Sys2Proof.Machine.execLslWidePred size zd pg zn zm s
  | .asrWideUnpred size zd zn zm => Sys2Proof.Machine.execAsrWideUnpred size zd zn zm s
  | .lsrWideUnpred size zd zn zm => Sys2Proof.Machine.execLsrWideUnpred size zd zn zm s
  | .lslWideUnpred size zd zn zm => Sys2Proof.Machine.execLslWideUnpred size zd zn zm s
  -- WidenNarrow
  | .saddlb size zd zn zm => Sys2Proof.Machine.execSaddlb size zd zn zm s
  | .saddlt size zd zn zm => Sys2Proof.Machine.execSaddlt size zd zn zm s
  | .uaddlb size zd zn zm => Sys2Proof.Machine.execUaddlb size zd zn zm s
  | .uaddlt size zd zn zm => Sys2Proof.Machine.execUaddlt size zd zn zm s
  | .ssublb size zd zn zm => Sys2Proof.Machine.execSsublb size zd zn zm s
  | .ssublt size zd zn zm => Sys2Proof.Machine.execSsublt size zd zn zm s
  | .usublb size zd zn zm => Sys2Proof.Machine.execUsublb size zd zn zm s
  | .usublt size zd zn zm => Sys2Proof.Machine.execUsublt size zd zn zm s
  | .sabdlb size zd zn zm => Sys2Proof.Machine.execSabdlb size zd zn zm s
  | .sabdlt size zd zn zm => Sys2Proof.Machine.execSabdlt size zd zn zm s
  | .uabdlb size zd zn zm => Sys2Proof.Machine.execUabdlb size zd zn zm s
  | .uabdlt size zd zn zm => Sys2Proof.Machine.execUabdlt size zd zn zm s
  | .sshllb size zd zn shift => Sys2Proof.Machine.execSshllb size zd zn shift s
  | .sshllt size zd zn shift => Sys2Proof.Machine.execSshllt size zd zn shift s
  | .ushllb size zd zn shift => Sys2Proof.Machine.execUshllb size zd zn shift s
  | .ushllt size zd zn shift => Sys2Proof.Machine.execUshllt size zd zn shift s
  | .addhnb size zd zn zm => Sys2Proof.Machine.execAddhnb size zd zn zm s
  | .addhnt size zd zn zm => Sys2Proof.Machine.execAddhnt size zd zn zm s
  | .raddhnb size zd zn zm => Sys2Proof.Machine.execRaddhnb size zd zn zm s
  | .raddhnt size zd zn zm => Sys2Proof.Machine.execRaddhnt size zd zn zm s
  | .subhnb size zd zn zm => Sys2Proof.Machine.execSubhnb size zd zn zm s
  | .subhnt size zd zn zm => Sys2Proof.Machine.execSubhnt size zd zn zm s
  | .rsubhnb size zd zn zm => Sys2Proof.Machine.execRsubhnb size zd zn zm s
  | .rsubhnt size zd zn zm => Sys2Proof.Machine.execRsubhnt size zd zn zm s
  | .sqshrunb size zd zn shift => Sys2Proof.Machine.execSqshrunb size zd zn shift s
  | .sqshrunt size zd zn shift => Sys2Proof.Machine.execSqshrunt size zd zn shift s
  | .sqrshrunb size zd zn shift => Sys2Proof.Machine.execSqrshrunb size zd zn shift s
  | .sqrshrunt size zd zn shift => Sys2Proof.Machine.execSqrshrunt size zd zn shift s
  | .shrnb size zd zn shift => Sys2Proof.Machine.execShrnb size zd zn shift s
  | .shrnt size zd zn shift => Sys2Proof.Machine.execShrnt size zd zn shift s
  | .rshrnb size zd zn shift => Sys2Proof.Machine.execRshrnb size zd zn shift s
  | .rshrnt size zd zn shift => Sys2Proof.Machine.execRshrnt size zd zn shift s
  | .sqshrnb size zd zn shift => Sys2Proof.Machine.execSqshrnb size zd zn shift s
  | .sqshrnt size zd zn shift => Sys2Proof.Machine.execSqshrnt size zd zn shift s
  | .sqrshrnb size zd zn shift => Sys2Proof.Machine.execSqrshrnb size zd zn shift s
  | .sqrshrnt size zd zn shift => Sys2Proof.Machine.execSqrshrnt size zd zn shift s
  | .uqshrnb size zd zn shift => Sys2Proof.Machine.execUqshrnb size zd zn shift s
  | .uqshrnt size zd zn shift => Sys2Proof.Machine.execUqshrnt size zd zn shift s
  | .uqrshrnb size zd zn shift => Sys2Proof.Machine.execUqrshrnb size zd zn shift s
  | .uqrshrnt size zd zn shift => Sys2Proof.Machine.execUqrshrnt size zd zn shift s
  | .ssra size zda zn shift => Sys2Proof.Machine.execSsra size zda zn shift s
  | .usra size zda zn shift => Sys2Proof.Machine.execUsra size zda zn shift s
  | .srsra size zda zn shift => Sys2Proof.Machine.execSrsra size zda zn shift s
  | .ursra size zda zn shift => Sys2Proof.Machine.execUrsra size zda zn shift s
  | .sri size zd zn shift => Sys2Proof.Machine.execSri size zd zn shift s
  | .sli size zd zn shift => Sys2Proof.Machine.execSli size zd zn shift s
  -- FloatIndexStack
  | .faddUnpred size zd zn zm => Sys2Proof.Machine.execFaddUnpred size zd zn zm s
  | .fsubUnpred size zd zn zm => Sys2Proof.Machine.execFsubUnpred size zd zn zm s
  | .fmulUnpred size zd zn zm => Sys2Proof.Machine.execFmulUnpred size zd zn zm s
  | .ftsmulUnpred size zd zn zm => Sys2Proof.Machine.execFtsmulUnpred size zd zn zm s
  | .frecpsUnpred size zd zn zm => Sys2Proof.Machine.execFrecpsUnpred size zd zn zm s
  | .frsqrtsUnpred size zd zn zm => Sys2Proof.Machine.execFrsqrtsUnpred size zd zn zm s
  | .faddPred size zd pg zn zm => Sys2Proof.Machine.execFaddPred size zd pg zn zm s
  | .fsubPred size zd pg zn zm => Sys2Proof.Machine.execFsubPred size zd pg zn zm s
  | .fmulPred size zd pg zn zm => Sys2Proof.Machine.execFmulPred size zd pg zn zm s
  | .fsubrPred size zd pg zn zm => Sys2Proof.Machine.execFsubrPred size zd pg zn zm s
  | .fmaxnmPred size zd pg zn zm => Sys2Proof.Machine.execFmaxnmPred size zd pg zn zm s
  | .fminnmPred size zd pg zn zm => Sys2Proof.Machine.execFminnmPred size zd pg zn zm s
  | .fmaxPred size zd pg zn zm => Sys2Proof.Machine.execFmaxPred size zd pg zn zm s
  | .fminPred size zd pg zn zm => Sys2Proof.Machine.execFminPred size zd pg zn zm s
  | .fabdPred size zd pg zn zm => Sys2Proof.Machine.execFabdPred size zd pg zn zm s
  | .fscalePred size zd pg zn zm => Sys2Proof.Machine.execFscalePred size zd pg zn zm s
  | .fmulxPred size zd pg zn zm => Sys2Proof.Machine.execFmulxPred size zd pg zn zm s
  | .fdivrPred size zd pg zn zm => Sys2Proof.Machine.execFdivrPred size zd pg zn zm s
  | .fdivPred size zd pg zn zm => Sys2Proof.Machine.execFdivPred size zd pg zn zm s
  | .fcmgeVec size pd pg zn zm => Sys2Proof.Machine.execFcmgeVec size pd pg zn zm s
  | .fcmgtVec size pd pg zn zm => Sys2Proof.Machine.execFcmgtVec size pd pg zn zm s
  | .fcmeqVec size pd pg zn zm => Sys2Proof.Machine.execFcmeqVec size pd pg zn zm s
  | .fcmneVec size pd pg zn zm => Sys2Proof.Machine.execFcmneVec size pd pg zn zm s
  | .fcmuoVec size pd pg zn zm => Sys2Proof.Machine.execFcmuoVec size pd pg zn zm s
  | .facgeVec size pd pg zn zm => Sys2Proof.Machine.execFacgeVec size pd pg zn zm s
  | .facgtVec size pd pg zn zm => Sys2Proof.Machine.execFacgtVec size pd pg zn zm s
  | .fcvt dsize ssize zd pg zn => Sys2Proof.Machine.execFcvt dsize ssize zd pg zn s
  | .fcadd size zd pg zn zm rot => Sys2Proof.Machine.execFcadd size zd pg zn zm rot s
  | .fcmla size zda pg zn zm rot => Sys2Proof.Machine.execFcmla size zda pg zn zm rot s
  | .indexIi size zd start step => Sys2Proof.Machine.execIndexIi size zd start step s
  | .indexRi size zd rn step => Sys2Proof.Machine.execIndexRi size zd rn step s
  | .indexIr size zd start rm => Sys2Proof.Machine.execIndexIr size zd start rm s
  | .indexRr size zd rn rm => Sys2Proof.Machine.execIndexRr size zd rn rm s
  | .addvl rd rn imm => Sys2Proof.Machine.execAddvl rd rn imm s
  | .addpl rd rn imm => Sys2Proof.Machine.execAddpl rd rn imm s
  | .rdvl rd imm => Sys2Proof.Machine.execRdvl rd imm s
  | .ftssel size zd zn zm => Sys2Proof.Machine.execFtssel size zd zn zm s
  | .fexpa size zd zn => Sys2Proof.Machine.execFexpa size zd zn s
  | .movprfxUnpred zd zn => Sys2Proof.Machine.execMovprfxUnpred zd zn s
  | .movprfxPred size zd pg zn => Sys2Proof.Machine.execMovprfxPred size zd pg zn s

end Sys2Proof.Machine
end

