-- ==== Sys2Proof/Machine/Polymorphic.lean ====
section
/-! DEFINITION. A polymorphic load/store request (R167, R318): the tag dispatch, the forwarding to the
operation it names, and the two tags that are dead ends. -/

namespace Sys2Proof.Machine

/-- The name recorded when a check of the target fails (R604, R167): the requested one or the target's;
the spec does not say which (log 6). -/
def forwardedName (p : PolyOp) (target : OpCode) : OpCode :=
  if Config.forwardedDiagIsTarget then target else p.code

/-- The step of a forwarded request: the target's own step, and, where that step raises, the name that
`diag.op` records. -/
def execForwarded (p : PolyOp) (i : Instr) (s : State) : Result :=
  match exec i s with
  | .next t => .next (if s.halted then t else if t.halted then
      { t with diagOp := forwardedName p t.diagOp } else t)
  | .fault r => .fault r
  | .refused r => .refused r

/-- The step of an unwired tag: refused while the latch is set (R606), and otherwise AddressingMode with
the tag's code (R84, R601). -/
def execUnwired (p : PolyOp) (mem : MemoryOperand) (s : State) : Result :=
  if s.halted then .next s
  else .next (s.raise p.code .addressingMode (mem.tag.setWidth 32))

/-- The step of a polymorphic request (R160, R167, R318): refused with no state change while the latch is
set (R606); a wired tag forwards size, register, predicate and payload unchanged; an unwired one raises
AddressingMode and records the tag code (R84, R601). -/
def execPolymorphic (p : PolyOp) (size : ReqInt) (zt : VReg) (pg : GovPred) (mem : MemoryOperand)
    (s : State) : Result :=
  match mem with
  | .scalarScalar rn rm => execForwarded p (p.scalarScalar size zt pg rn rm) s
  | .scalarImm rn imm => execForwarded p (p.scalarImm size zt pg rn imm) s
  | .scalarVector _ _ => execUnwired p mem s
  | .vectorImm _ _ => execUnwired p mem s

end Sys2Proof.Machine
end

