-- ==== Sys2Proof/Machine/Step.lean ====
section
/-! DEFINITION. One step of the machine: what stands first on the port is taken, a request or a reset, one
at a time and in order (R160, R630). With nothing presented the block waits (R630, R638). -/

namespace Sys2Proof.Machine

/-- One step (R160). A code outside the enumeration is refused: no word, no state change (U2, log 9). -/
def step (s : State) : Host.Outcome State Fault Refusal :=
  match s.port with
  | [] => .next s
  | .reset :: rest => .next (State.takeReset { s with port := rest })
  | .request (.direct i _) :: rest => exec i { s with port := rest }
  | .request (.polymorphic p size zt pg mem _) :: rest =>
    execPolymorphic p size zt pg mem { s with port := rest }
  | .request (.unadmitted _) :: rest => .next { s with port := rest }

/- No compiled code, as for `decodeTableWord`. -/
noncomputable section

/-- The request whose word a table word is, on the port with 64-bit views, or a code outside the
enumeration where it is the word of none. -/
def requestOfTableWord (nbits w : Nat) : Request :=
  match decodeTableWord nbits w with
  | some i => .direct i ⟨1, 1, 1⟩
  | none => .unadmitted w

/-- The state with the request of that word presented first on the port, where `step` takes its next
request. Nothing else changes. -/
def State.withFetchWord (s : State) (nbits w : Nat) : State :=
  { s with port := .request (requestOfTableWord nbits w) :: s.port }

end

end Sys2Proof.Machine
end

