-- ==== Sys2Proof/Machine/FormatTable.lean ====
section
/-! DEFINITION. The operations' half of the default `FormatTable` (R78): for each operation its packer and
what it gives each field; when a table is well formed; and the word of a request in a state. -/

namespace Sys2Proof

open Machine

/-- What the default table gives the operation of a request, at the request's operands (R78). -/
def Instr.placement : Instr → Placement
  | .addUnpred size zd zn zm => placeAddUnpred size zd zn zm
  | .subUnpred size zd zn zm => placeSubUnpred size zd zn zm
  | .sqaddUnpred size zd zn zm => placeSqaddUnpred size zd zn zm
  | .uqaddUnpred size zd zn zm => placeUqaddUnpred size zd zn zm
  | .sqsubUnpred size zd zn zm => placeSqsubUnpred size zd zn zm
  | .uqsubUnpred size zd zn zm => placeUqsubUnpred size zd zn zm
  | .addPred size zd pg _ zm => placeAddPred size zd pg zm
  | .subPred size zd pg _ zm => placeSubPred size zd pg zm
  | .subrPred size zd pg _ zm => placeSubrPred size zd pg zm
  | .smaxPred size zd pg _ zm => placeSmaxPred size zd pg zm
  | .umaxPred size zd pg _ zm => placeUmaxPred size zd pg zm
  | .sminPred size zd pg _ zm => placeSminPred size zd pg zm
  | .uminPred size zd pg _ zm => placeUminPred size zd pg zm
  | .sabdPred size zd pg _ zm => placeSabdPred size zd pg zm
  | .uabdPred size zd pg _ zm => placeUabdPred size zd pg zm
  | .orrPred size zd pg _ zm => placeOrrPred size zd pg zm
  | .eorPred size zd pg _ zm => placeEorPred size zd pg zm
  | .andPred size zd pg _ zm => placeAndPred size zd pg zm
  | .bicPred size zd pg _ zm => placeBicPred size zd pg zm
  | .andUnpred zd zn zm => placeAndUnpred zd zn zm
  | .orrUnpred zd zn zm => placeOrrUnpred zd zn zm
  | .eorUnpred zd zn zm => placeEorUnpred zd zn zm
  | .bicUnpred zd zn zm => placeBicUnpred zd zn zm
  | .cadd size zd _ zm rot => placeCadd size zd zm rot
  | .sqcadd size zd _ zm rot => placeSqcadd size zd zm rot
  | .cmla size zda zn zm rot => placeCmla size zda zn zm rot
  | .cmpgeImm size pd pg zn imm => placeCmpgeImm size pd pg zn imm
  | .cmpgtImm size pd pg zn imm => placeCmpgtImm size pd pg zn imm
  | .cmpltImm size pd pg zn imm => placeCmpltImm size pd pg zn imm
  | .cmpleImm size pd pg zn imm => placeCmpleImm size pd pg zn imm
  | .cmpeqImm size pd pg zn imm => placeCmpeqImm size pd pg zn imm
  | .cmpneImm size pd pg zn imm => placeCmpneImm size pd pg zn imm
  | .cmphsImm size pd pg zn imm => placeCmphsImm size pd pg zn imm
  | .cmphiImm size pd pg zn imm => placeCmphiImm size pd pg zn imm
  | .cmploImm size pd pg zn imm => placeCmploImm size pd pg zn imm
  | .cmplsImm size pd pg zn imm => placeCmplsImm size pd pg zn imm
  | .cmphsVec size pd pg zn zm => placeCmphsVec size pd pg zn zm
  | .cmphiVec size pd pg zn zm => placeCmphiVec size pd pg zn zm
  | .cmpgeVec size pd pg zn zm => placeCmpgeVec size pd pg zn zm
  | .cmpgtVec size pd pg zn zm => placeCmpgtVec size pd pg zn zm
  | .cmpeqVec size pd pg zn zm => placeCmpeqVec size pd pg zn zm
  | .cmpneVec size pd pg zn zm => placeCmpneVec size pd pg zn zm
  | .zip1 size zd zn zm => placeZip1 size zd zn zm
  | .zip2 size zd zn zm => placeZip2 size zd zn zm
  | .uzp1 size zd zn zm => placeUzp1 size zd zn zm
  | .uzp2 size zd zn zm => placeUzp2 size zd zn zm
  | .trn1 size zd zn zm => placeTrn1 size zd zn zm
  | .trn2 size zd zn zm => placeTrn2 size zd zn zm
  | .tbl size zd zn zm => placeTbl size zd zn zm
  | .tbx size zd zn zm => placeTbx size zd zn zm
  | .dupIndexed size zd zn index => placeDupIndexed size zd zn index
  | .extDestructive zd _ zm imm => placeExtDestructive zd zm imm
  | .extConstructive zd zn _ imm => placeExtConstructive zd zn imm
  | .spliceDestructive size zd pv _ zm => placeSpliceDestructive size zd pv zm
  | .spliceConstructive size zd pv zn _ => placeSpliceConstructive size zd pv zn
  | .mulPred size zd pg _ zm => placeMulPred size zd pg zm
  | .smulhPred size zd pg _ zm => placeSmulhPred size zd pg zm
  | .umulhPred size zd pg _ zm => placeUmulhPred size zd pg zm
  | .sdivPred size zd pg _ zm => placeSdivPred size zd pg zm
  | .udivPred size zd pg _ zm => placeUdivPred size zd pg zm
  | .sdivrPred size zd pg _ zm => placeSdivrPred size zd pg zm
  | .udivrPred size zd pg _ zm => placeUdivrPred size zd pg zm
  | .saddv size vd pg zn => placeSaddv size vd pg zn
  | .uaddv size vd pg zn => placeUaddv size vd pg zn
  | .smaxv size vd pg zn => placeSmaxv size vd pg zn
  | .umaxv size vd pg zn => placeUmaxv size vd pg zn
  | .sminv size vd pg zn => placeSminv size vd pg zn
  | .uminv size vd pg zn => placeUminv size vd pg zn
  | .orv size vd pg zn => placeOrv size vd pg zn
  | .eorv size vd pg zn => placeEorv size vd pg zn
  | .andv size vd pg zn => placeAndv size vd pg zn
  | .andP pd pg pn pm => placeAndP pd pg pn pm
  | .bicP pd pg pn pm => placeBicP pd pg pn pm
  | .eorP pd pg pn pm => placeEorP pd pg pn pm
  | .selP pd pg pn pm => placeSelP pd pg pn pm
  | .orrP pd pg pn pm => placeOrrP pd pg pn pm
  | .ornP pd pg pn pm => placeOrnP pd pg pn pm
  | .norP pd pg pn pm => placeNorP pd pg pn pm
  | .nandP pd pg pn pm => placeNandP pd pg pn pm
  | .andsP pd pg pn pm => placeAndsP pd pg pn pm
  | .bicsP pd pg pn pm => placeBicsP pd pg pn pm
  | .eorsP pd pg pn pm => placeEorsP pd pg pn pm
  | .orrsP pd pg pn pm => placeOrrsP pd pg pn pm
  | .ornsP pd pg pn pm => placeOrnsP pd pg pn pm
  | .norsP pd pg pn pm => placeNorsP pd pg pn pm
  | .nandsP pd pg pn pm => placeNandsP pd pg pn pm
  | .brkpa pd pg pn pm => placeBrkpa pd pg pn pm
  | .brkpb pd pg pn pm => placeBrkpb pd pg pn pm
  | .brkpas pd pg pn pm => placeBrkpas pd pg pn pm
  | .brkpbs pd pg pn pm => placeBrkpbs pd pg pn pm
  | .brka pd pg pn => placeBrka pd pg pn
  | .brkas pd pg pn => placeBrkas pd pg pn
  | .brkb pd pg pn => placeBrkb pd pg pn
  | .brkbs pd pg pn => placeBrkbs pd pg pn
  | .brkn pd pg pn _ => placeBrkn pd pg pn
  | .brkns pd pg pn _ => placeBrkns pd pg pn
  | .ptrue size pd pattern => placePtrue size pd pattern
  | .ptrues size pd pattern => placePtrues size pd pattern
  | .pfalse pd => placePfalse pd
  | .ptest pg pn => placePtest pg pn
  | .pfirst pd pg _ => placePfirst pd pg
  | .pnext size pd pg _ => placePnext size pd pg
  | .rdffrUnpred pd => placeRdffrUnpred pd
  | .rdffrPred pd pg => placeRdffrPred pd pg
  | .rdffrsPred pd pg => placeRdffrsPred pd pg
  | .setffr => placeSetffr
  | .wrffr pn => placeWrffr pn
  | .ld1bSs size zt pg rn rm => placeLd1bSs size zt pg rn rm
  | .ld1bSi size zt pg rn imm => placeLd1bSi size zt pg rn imm
  | .ld1swSs _ zt pg rn rm => placeLd1swSs zt pg rn rm
  | .ld1swSi _ zt pg rn imm => placeLd1swSi zt pg rn imm
  | .ld1hSs size zt pg rn rm => placeLd1hSs size zt pg rn rm
  | .ld1hSi size zt pg rn imm => placeLd1hSi size zt pg rn imm
  | .ld1shSs size zt pg rn rm => placeLd1shSs size zt pg rn rm
  | .ld1shSi size zt pg rn imm => placeLd1shSi size zt pg rn imm
  | .ld1wSs size zt pg rn rm => placeLd1wSs size zt pg rn rm
  | .ld1wSi size zt pg rn imm => placeLd1wSi size zt pg rn imm
  | .ld1sbSs size zt pg rn rm => placeLd1sbSs size zt pg rn rm
  | .ld1sbSi size zt pg rn imm => placeLd1sbSi size zt pg rn imm
  | .ld1dSs _ zt pg rn rm => placeLd1dSs zt pg rn rm
  | .ld1dSi _ zt pg rn imm => placeLd1dSi zt pg rn imm
  | .st1bSs size zt pg rn rm => placeSt1bSs size zt pg rn rm
  | .st1bSi size zt pg rn imm => placeSt1bSi size zt pg rn imm
  | .st1hSs size zt pg rn rm => placeSt1hSs size zt pg rn rm
  | .st1hSi size zt pg rn imm => placeSt1hSi size zt pg rn imm
  | .st1wSs size zt pg rn rm => placeSt1wSs size zt pg rn rm
  | .st1wSi size zt pg rn imm => placeSt1wSi size zt pg rn imm
  | .st1dSs size zt pg rn rm => placeSt1dSs size zt pg rn rm
  | .st1dSi size zt pg rn imm => placeSt1dSi size zt pg rn imm
  | .ld2bSs zt1 _ pg rn rm => placeLd2bSs zt1 pg rn rm
  | .ld2bSi zt1 _ pg rn imm => placeLd2bSi zt1 pg rn imm
  | .ld2hSs zt1 _ pg rn rm => placeLd2hSs zt1 pg rn rm
  | .ld2hSi zt1 _ pg rn imm => placeLd2hSi zt1 pg rn imm
  | .ld2wSs zt1 _ pg rn rm => placeLd2wSs zt1 pg rn rm
  | .ld2wSi zt1 _ pg rn imm => placeLd2wSi zt1 pg rn imm
  | .ld2dSs zt1 _ pg rn rm => placeLd2dSs zt1 pg rn rm
  | .ld2dSi zt1 _ pg rn imm => placeLd2dSi zt1 pg rn imm
  | .ld3bSs zt1 _ _ pg rn rm => placeLd3bSs zt1 pg rn rm
  | .ld3bSi zt1 _ _ pg rn imm => placeLd3bSi zt1 pg rn imm
  | .ld3hSs zt1 _ _ pg rn rm => placeLd3hSs zt1 pg rn rm
  | .ld3hSi zt1 _ _ pg rn imm => placeLd3hSi zt1 pg rn imm
  | .ld3wSs zt1 _ _ pg rn rm => placeLd3wSs zt1 pg rn rm
  | .ld3wSi zt1 _ _ pg rn imm => placeLd3wSi zt1 pg rn imm
  | .ld3dSs zt1 _ _ pg rn rm => placeLd3dSs zt1 pg rn rm
  | .ld3dSi zt1 _ _ pg rn imm => placeLd3dSi zt1 pg rn imm
  | .ld4bSs zt1 _ _ _ pg rn rm => placeLd4bSs zt1 pg rn rm
  | .ld4bSi zt1 _ _ _ pg rn imm => placeLd4bSi zt1 pg rn imm
  | .ld4hSs zt1 _ _ _ pg rn rm => placeLd4hSs zt1 pg rn rm
  | .ld4hSi zt1 _ _ _ pg rn imm => placeLd4hSi zt1 pg rn imm
  | .ld4wSs zt1 _ _ _ pg rn rm => placeLd4wSs zt1 pg rn rm
  | .ld4wSi zt1 _ _ _ pg rn imm => placeLd4wSi zt1 pg rn imm
  | .ld4dSs zt1 _ _ _ pg rn rm => placeLd4dSs zt1 pg rn rm
  | .ld4dSi zt1 _ _ _ pg rn imm => placeLd4dSi zt1 pg rn imm
  | .st2bSs zt1 _ pg rn rm => placeSt2bSs zt1 pg rn rm
  | .st2bSi zt1 _ pg rn imm => placeSt2bSi zt1 pg rn imm
  | .st2hSs zt1 _ pg rn rm => placeSt2hSs zt1 pg rn rm
  | .st2hSi zt1 _ pg rn imm => placeSt2hSi zt1 pg rn imm
  | .st2wSs zt1 _ pg rn rm => placeSt2wSs zt1 pg rn rm
  | .st2wSi zt1 _ pg rn imm => placeSt2wSi zt1 pg rn imm
  | .st2dSs zt1 _ pg rn rm => placeSt2dSs zt1 pg rn rm
  | .st2dSi zt1 _ pg rn imm => placeSt2dSi zt1 pg rn imm
  | .st3bSs zt1 _ _ pg rn rm => placeSt3bSs zt1 pg rn rm
  | .st3bSi zt1 _ _ pg rn imm => placeSt3bSi zt1 pg rn imm
  | .st3hSs zt1 _ _ pg rn rm => placeSt3hSs zt1 pg rn rm
  | .st3hSi zt1 _ _ pg rn imm => placeSt3hSi zt1 pg rn imm
  | .st3wSs zt1 _ _ pg rn rm => placeSt3wSs zt1 pg rn rm
  | .st3wSi zt1 _ _ pg rn imm => placeSt3wSi zt1 pg rn imm
  | .st3dSs zt1 _ _ pg rn rm => placeSt3dSs zt1 pg rn rm
  | .st3dSi zt1 _ _ pg rn imm => placeSt3dSi zt1 pg rn imm
  | .st4bSs zt1 _ _ _ pg rn rm => placeSt4bSs zt1 pg rn rm
  | .st4bSi zt1 _ _ _ pg rn imm => placeSt4bSi zt1 pg rn imm
  | .st4hSs zt1 _ _ _ pg rn rm => placeSt4hSs zt1 pg rn rm
  | .st4hSi zt1 _ _ _ pg rn imm => placeSt4hSi zt1 pg rn imm
  | .st4wSs zt1 _ _ _ pg rn rm => placeSt4wSs zt1 pg rn rm
  | .st4wSi zt1 _ _ _ pg rn imm => placeSt4wSi zt1 pg rn imm
  | .st4dSs zt1 _ _ _ pg rn rm => placeSt4dSs zt1 pg rn rm
  | .st4dSi zt1 _ _ _ pg rn imm => placeSt4dSi zt1 pg rn imm
  | .asrImmPred size zd pg _ shift => placeAsrImmPred size zd pg shift
  | .lsrImmPred size zd pg _ shift => placeLsrImmPred size zd pg shift
  | .lslImmPred size zd pg _ shift => placeLslImmPred size zd pg shift
  | .asrdImmPred size zd pg _ shift => placeAsrdImmPred size zd pg shift
  | .sqshlImmPred size zd pg _ shift => placeSqshlImmPred size zd pg shift
  | .uqshlImmPred size zd pg _ shift => placeUqshlImmPred size zd pg shift
  | .srshrImmPred size zd pg _ shift => placeSrshrImmPred size zd pg shift
  | .urshrImmPred size zd pg _ shift => placeUrshrImmPred size zd pg shift
  | .sqshluImmPred size zd pg _ shift => placeSqshluImmPred size zd pg shift
  | .asrImmUnpred size zd zn shift => placeAsrImmUnpred size zd zn shift
  | .lsrImmUnpred size zd zn shift => placeLsrImmUnpred size zd zn shift
  | .lslImmUnpred size zd zn shift => placeLslImmUnpred size zd zn shift
  | .asrVecPred size zd pg _ zm => placeAsrVecPred size zd pg zm
  | .lsrVecPred size zd pg _ zm => placeLsrVecPred size zd pg zm
  | .lslVecPred size zd pg _ zm => placeLslVecPred size zd pg zm
  | .asrrVecPred size zd pg _ zm => placeAsrrVecPred size zd pg zm
  | .lsrrVecPred size zd pg _ zm => placeLsrrVecPred size zd pg zm
  | .lslrVecPred size zd pg _ zm => placeLslrVecPred size zd pg zm
  | .asrWidePred size zd pg _ zm => placeAsrWidePred size zd pg zm
  | .lsrWidePred size zd pg _ zm => placeLsrWidePred size zd pg zm
  | .lslWidePred size zd pg _ zm => placeLslWidePred size zd pg zm
  | .asrWideUnpred size zd zn zm => placeAsrWideUnpred size zd zn zm
  | .lsrWideUnpred size zd zn zm => placeLsrWideUnpred size zd zn zm
  | .lslWideUnpred size zd zn zm => placeLslWideUnpred size zd zn zm
  | .saddlb size zd zn zm => placeSaddlb size zd zn zm
  | .saddlt size zd zn zm => placeSaddlt size zd zn zm
  | .uaddlb size zd zn zm => placeUaddlb size zd zn zm
  | .uaddlt size zd zn zm => placeUaddlt size zd zn zm
  | .ssublb size zd zn zm => placeSsublb size zd zn zm
  | .ssublt size zd zn zm => placeSsublt size zd zn zm
  | .usublb size zd zn zm => placeUsublb size zd zn zm
  | .usublt size zd zn zm => placeUsublt size zd zn zm
  | .sabdlb size zd zn zm => placeSabdlb size zd zn zm
  | .sabdlt size zd zn zm => placeSabdlt size zd zn zm
  | .uabdlb size zd zn zm => placeUabdlb size zd zn zm
  | .uabdlt size zd zn zm => placeUabdlt size zd zn zm
  | .sshllb size zd zn shift => placeSshllb size zd zn shift
  | .sshllt size zd zn shift => placeSshllt size zd zn shift
  | .ushllb size zd zn shift => placeUshllb size zd zn shift
  | .ushllt size zd zn shift => placeUshllt size zd zn shift
  | .addhnb size zd zn zm => placeAddhnb size zd zn zm
  | .addhnt size zd zn zm => placeAddhnt size zd zn zm
  | .raddhnb size zd zn zm => placeRaddhnb size zd zn zm
  | .raddhnt size zd zn zm => placeRaddhnt size zd zn zm
  | .subhnb size zd zn zm => placeSubhnb size zd zn zm
  | .subhnt size zd zn zm => placeSubhnt size zd zn zm
  | .rsubhnb size zd zn zm => placeRsubhnb size zd zn zm
  | .rsubhnt size zd zn zm => placeRsubhnt size zd zn zm
  | .sqshrunb size zd zn shift => placeSqshrunb size zd zn shift
  | .sqshrunt size zd zn shift => placeSqshrunt size zd zn shift
  | .sqrshrunb size zd zn shift => placeSqrshrunb size zd zn shift
  | .sqrshrunt size zd zn shift => placeSqrshrunt size zd zn shift
  | .shrnb size zd zn shift => placeShrnb size zd zn shift
  | .shrnt size zd zn shift => placeShrnt size zd zn shift
  | .rshrnb size zd zn shift => placeRshrnb size zd zn shift
  | .rshrnt size zd zn shift => placeRshrnt size zd zn shift
  | .sqshrnb size zd zn shift => placeSqshrnb size zd zn shift
  | .sqshrnt size zd zn shift => placeSqshrnt size zd zn shift
  | .sqrshrnb size zd zn shift => placeSqrshrnb size zd zn shift
  | .sqrshrnt size zd zn shift => placeSqrshrnt size zd zn shift
  | .uqshrnb size zd zn shift => placeUqshrnb size zd zn shift
  | .uqshrnt size zd zn shift => placeUqshrnt size zd zn shift
  | .uqrshrnb size zd zn shift => placeUqrshrnb size zd zn shift
  | .uqrshrnt size zd zn shift => placeUqrshrnt size zd zn shift
  | .ssra size zda zn shift => placeSsra size zda zn shift
  | .usra size zda zn shift => placeUsra size zda zn shift
  | .srsra size zda zn shift => placeSrsra size zda zn shift
  | .ursra size zda zn shift => placeUrsra size zda zn shift
  | .sri size zd zn shift => placeSri size zd zn shift
  | .sli size zd zn shift => placeSli size zd zn shift
  | .faddUnpred size zd zn zm => placeFaddUnpred size zd zn zm
  | .fsubUnpred size zd zn zm => placeFsubUnpred size zd zn zm
  | .fmulUnpred size zd zn zm => placeFmulUnpred size zd zn zm
  | .ftsmulUnpred size zd zn zm => placeFtsmulUnpred size zd zn zm
  | .frecpsUnpred size zd zn zm => placeFrecpsUnpred size zd zn zm
  | .frsqrtsUnpred size zd zn zm => placeFrsqrtsUnpred size zd zn zm
  | .faddPred size zd pg _ zm => placeFaddPred size zd pg zm
  | .fsubPred size zd pg _ zm => placeFsubPred size zd pg zm
  | .fmulPred size zd pg _ zm => placeFmulPred size zd pg zm
  | .fsubrPred size zd pg _ zm => placeFsubrPred size zd pg zm
  | .fmaxnmPred size zd pg _ zm => placeFmaxnmPred size zd pg zm
  | .fminnmPred size zd pg _ zm => placeFminnmPred size zd pg zm
  | .fmaxPred size zd pg _ zm => placeFmaxPred size zd pg zm
  | .fminPred size zd pg _ zm => placeFminPred size zd pg zm
  | .fabdPred size zd pg _ zm => placeFabdPred size zd pg zm
  | .fscalePred size zd pg _ zm => placeFscalePred size zd pg zm
  | .fmulxPred size zd pg _ zm => placeFmulxPred size zd pg zm
  | .fdivrPred size zd pg _ zm => placeFdivrPred size zd pg zm
  | .fdivPred size zd pg _ zm => placeFdivPred size zd pg zm
  | .fcmgeVec size pd pg zn zm => placeFcmgeVec size pd pg zn zm
  | .fcmgtVec size pd pg zn zm => placeFcmgtVec size pd pg zn zm
  | .fcmeqVec size pd pg zn zm => placeFcmeqVec size pd pg zn zm
  | .fcmneVec size pd pg zn zm => placeFcmneVec size pd pg zn zm
  | .fcmuoVec size pd pg zn zm => placeFcmuoVec size pd pg zn zm
  | .facgeVec size pd pg zn zm => placeFacgeVec size pd pg zn zm
  | .facgtVec size pd pg zn zm => placeFacgtVec size pd pg zn zm
  | .fcvt dsize ssize zd pg zn => placeFcvt dsize ssize zd pg zn
  | .fcadd size zd pg _ zm rot => placeFcadd size zd pg zm rot
  | .fcmla size zda pg zn zm rot => placeFcmla size zda pg zn zm rot
  | .indexIi size zd start step => placeIndexIi size zd start step
  | .indexRi size zd rn step => placeIndexRi size zd rn step
  | .indexIr size zd start rm => placeIndexIr size zd start rm
  | .indexRr size zd rn rm => placeIndexRr size zd rn rm
  | .addvl rd rn imm => placeAddvl rd rn imm
  | .addpl rd rn imm => placeAddpl rd rn imm
  | .rdvl rd imm => placeRdvl rd imm
  | .ftssel size zd zn zm => placeFtssel size zd zn zm
  | .fexpa size zd zn => placeFexpa size zd zn
  | .movprfxUnpred zd zn => placeMovprfxUnpred zd zn
  | .movprfxPred size zd pg zn => placeMovprfxPred size zd pg zn

namespace Machine

/-- Under the table every field of the packer that the operation of a request uses is given a value (R78 (c)). -/
def FormatTable.gives (t : FormatTable) (i : Instr) : Bool :=
  (t.packer (t.placement i.op i.placement).packer).fields.all
    (fun x => ((t.placement i.op i.placement).values.lookup x.name).isSome)

/-- A well-formed table (R78): (a) and (b) for each packer, (c) for each operation. -/
def FormatTable.wellFormed (t : FormatTable) : Prop :=
  (∀ n, (t.packer n).wellFormed = true) ∧ ∀ i : Instr, t.gives i = true

/-- The word of a request in a run with the state's format table (R164). -/
def State.wordOf (s : State) (i : Instr) : Word := s.formatTable.word i.op i.placement

/-- The packer that the operation of a request uses in a run with the state's format table (R78). -/
def State.packerOf (s : State) (i : Instr) : Format :=
  s.formatTable.packer (s.formatTable.placement i.op i.placement).packer

/-- The value of a field of a request in a run with the state's format table (R164). -/
def State.fieldValue (s : State) (i : Instr) (f : FieldName) : Nat :=
  (s.formatTable.placement i.op i.placement).value f

end Machine

end Sys2Proof
end

