-- ==== Sys2Proof/Machine/Flags.lean ====
section
/-! DEFINITION. Flags. The block has no condition codes and no operation writes one (R21, R178). Its only
flag-like state is the latch, presented with the cause and the diagnostic on the status port (R23,
R604), which the caller reads and cannot write. -/

namespace Sys2Proof.Machine

/-- What the status port shows (R23). The content is meaningful while `halted` is set. -/
structure FaultStatus where
  halted : Bool
  cause : BitVec 3
  op : OpCode
  value : BitVec 32
  deriving DecidableEq, Repr

/-- The caller's read of the status port (R177, R604): it changes nothing. -/
def State.faultStatus (s : State) : FaultStatus := ⟨s.halted, s.cause, s.diagOp, s.diagValue⟩

end Sys2Proof.Machine
end

