-- ==== Sys2Proof/Safety.lean ====
section
/-! DEFINITION. What counts as a safe run, in the terms the statements use: the invariant every step
keeps, and when a run is complete or faulted (R605, R638). -/

namespace Sys2Proof.Machine

/-- The latch and the cause agree: 0 and none, or 1 and one of the five codes (R22, R23). -/
def State.latchCoherent (s : State) : Prop :=
  if s.halted then 1 ≤ s.cause ∧ s.cause ≤ 5 else s.cause = 0

/-- Exactly the bytes of the words from `WPOS0` to the cursor have been written (R25, R47). -/
def State.streamExact (s : State) : Prop :=
  ∀ a, (s.stream.read a).isSome = decide (4 * s.wpos0 ≤ a ∧ a < 4 * s.wpos)

/-- The invariant: the stream in canonical form, holding exactly the words appended, the cursor not below
its start, the latch and the cause in agreement. -/
def State.Inv (s : State) : Prop :=
  s.stream.wf ∧ s.wpos0 ≤ s.wpos ∧ s.streamExact ∧ s.latchCoherent

/-- A complete run: nothing left to take and the latch clear (R638). -/
def State.complete (s : State) : Prop := s.port = [] ∧ s.halted = false

/-- A faulted run, never a complete one (R605, R638). -/
def State.faulted (s : State) : Prop := s.halted = true

/-- The result of a complete run: the words from `WPOS0` to the cursor (R638). DESIGN CHOICE (log 18): the
spec does not say whether a later reset event, which begins another run and leaves the cursor (R630), makes
that cursor the new `WPOS0`; here `WPOS0` stays what it was, so after such a reset the words of the earlier
runs, faulted ones too, are still counted. -/
def State.resultWords (s : State) : List (Option Word) :=
  (List.range (s.wpos - s.wpos0)).map (fun k => s.stream.readWord s.byteOrder (s.wpos0 + k))

/-- What the rule of an operation says of a request (R160, R604, R609), its `require` lines and its word
given: with the latch clear, if every line holds the word is appended and nothing else happens, and the
first line that fails raises its cause with its value and nothing else happens. The word is the rule's own,
so it is appended in a run whose format table is the default (R78); the raise is the same under any. -/
def Follows (i : Instr) (lines : List Check) (w : Word) : Prop :=
  ∀ s : State, s.halted = false →
    (s.formatTable = FormatTable.default → (∀ c ∈ lines, c.ok = true) →
      exec i s = .next (s.append w)) ∧
    ∀ (before after : List Check) (c : Check), lines = before ++ c :: after →
      (∀ b ∈ before, b.ok = true) → c.ok = false →
      exec i s = .next (s.raise i.op c.cause c.value)

/-- What the dispatch of R167 says of a polymorphic request and its target, under any format table: a legal
target's word is appended; a target with a failed check raises that check's cause and value, and the operation recorded is one
of the two names (R604 does not say which; log 6). -/
def Forwards (p : PolyOp) (size : ReqInt) (zt : VReg) (pg : GovPred) (mem : MemoryOperand)
    (i : Instr) : Prop :=
  ∀ s : State, s.halted = false →
    (i.wellFormed = true → execPolymorphic p size zt pg mem s = .next (s.append (s.wordOf i))) ∧
    (i.wellFormed = false → ∃ cause value op,
      exec i s = .next (s.raise i.op cause value) ∧ (op = p.code ∨ op = i.op) ∧
      execPolymorphic p size zt pg mem s = .next (s.raise op cause value))

end Sys2Proof.Machine
end

