-- ==== Sys2Proof/Certificates/Slice0/Obligations.lean ====
section
/-! DEFINITION. The statements about the block, for the provers. Each formalises rules of spec/ or says
what the model does where the spec leaves a choice. `Follows` and `Forwards` are in Safety.lean. -/

open Sys2Proof Sys2Proof.Machine

/-- Reset values (R22, R23, R27): the latch and the cause are 0, and nothing of the stream is written.
What an unwritten byte reads as (no value) is the model's choice, log 3. -/
def Obligations.ResetClearsLatchAndCauseAndListsNoByte : Prop :=
  State.reset.halted = false ∧ State.reset.cause = 0 ∧ ∀ a, State.reset.stream.read a = none

/-- The invariant of Safety.lean holds right after reset. The values of the cursor and of the parameters
there are the model's choice, log 2. -/
def Obligations.InvariantHoldsAtReset : Prop := State.reset.Inv

/-- Every step keeps the invariant: the stream is in canonical form and holds exactly the bytes from
`WPOS0` to the cursor, and the latch and the cause agree (R22, R23, R25, R47). -/
def Obligations.EveryStepKeepsTheInvariant : Prop :=
  ∀ s t : State, s.Inv → step s = .next t → t.Inv

/-- After the halt (R606): while the latch is set, every sequence of requests, of whatever kind, is
refused. The model's own: the port the requests stand on (log 7), that a refused request leaves it (log 8),
and that a request can be a code outside the enumeration (log 9). -/
def Obligations.HaltedBlockRefusesEverySequenceOfRequests : Prop :=
  ∀ (s : State) (qs : List Request) (rest : List PortEvent), s.halted = true →
    s.port = qs.map PortEvent.request ++ rest →
    Host.Core.run Sys2Proof.core qs.length s = .next { s with port := rest }

/-- Reset (R630): the latch and the cause become 0, `diag` something, and nothing of the sink changes. The
port the reset stands on and the counter of free values are the model's own (logs 7 and 5). -/
def Obligations.ResetEventClearsTheLatchAndLeavesTheSink : Prop :=
  ∀ (s : State) (rest : List PortEvent), s.port = .reset :: rest →
    ∃ op value, step s = .next { s with
      port := rest, halted := false, cause := 0, diagOp := op, diagValue := value,
      freeCount := s.freeCount + 1 }

/-- The latch (R22): set by a raise and by nothing else, cleared by reset and by nothing else. The port
that a request or a reset stands on is the model's own (log 7). -/
def Obligations.LatchIsSetByRaiseOnlyAndClearedByResetOnly : Prop :=
  ∀ s t : State, step s = .next t →
    (s.halted = false → t.halted = true → ∃ q rest op cause value,
      s.port = .request q :: rest ∧ t = State.raise { s with port := rest } op cause value) ∧
    (s.halted = true → t.halted = false → ∃ rest, s.port = .reset :: rest)

/-- The block is a function (R168): in a run with one format table and with the latch clear, what a request
leads to, the word or the raise, is the same in every state. For the raise the value recorded is the same too
(R601, R604), and for a polymorphic request the operation recorded: which of two names that is where a target
fails a check is one constant of the model (log 6). -/
def Obligations.OutcomeDependsOnTheRequestAlone : Prop :=
  (∀ (table : FormatTable) (i : Instr),
    (∃ w, ∀ s : State, s.formatTable = table → s.halted = false → exec i s = .next (s.append w)) ∨
    (∃ cause value, ∀ s : State, s.halted = false → exec i s = .next (s.raise i.op cause value))) ∧
  (∀ (table : FormatTable) (p : PolyOp) (size : ReqInt) (zt : VReg) (pg : GovPred)
    (mem : MemoryOperand),
    (∃ w, ∀ s : State, s.formatTable = table → s.halted = false →
      execPolymorphic p size zt pg mem s = .next (s.append w)) ∨
    (∃ op cause value, ∀ s : State, s.halted = false →
      execPolymorphic p size zt pg mem s = .next (s.raise op cause value)))

/-- Completion of every operation: with the latch clear and the default format table, a request that meets
its operation's preconditions appends its word, and that is all that happens (R160, R164, R166). The word is
that of the encoder of Decode.lean (log 10), written from the table's rows; the meanings build it from the
packers. -/
def Obligations.EveryLegalRequestAppendsItsWord : Prop :=
  ∀ (i : Instr) (s : State), s.formatTable = FormatTable.default → s.halted = false →
    i.wellFormed = true → exec i s = .next (s.append i.encode) ∧ s.wordOf i = i.encode

/-- A request that violates a precondition raises, and that is all that happens (R83, R162): nothing is
repaired and no other word is appended. -/
def Obligations.EveryIllegalRequestRaisesAndAppendsNothing : Prop :=
  ∀ (i : Instr) (s : State), s.halted = false → i.wellFormed = false →
    ∃ cause value, exec i s = .next (s.raise i.op cause value)

/-- Decode and encode agree: the word of every legal request, at every value of every operand, decodes to
that request (R79: the operation and every placed field can be read back). The decoder and the encoder are
the model's own (log 10): the block has no decoder. -/
def Obligations.DecodingTheWordOfALegalRequestGivesTheRequest : Prop :=
  ∀ i : Instr, i.wellFormed = true → decodeWord i.encode = .ok i

/-- A word that decodes to a legal request is that request's word: no bit of the word is ignored. This is
about the model's own decoder and encoder (log 10): the block has no decoder (U19), and R79 says only what
can be read back from a produced word. -/
def Obligations.AWordThatDecodesToALegalRequestIsItsWord : Prop :=
  ∀ (w : Word) (i : Instr), decodeWord w = .ok i → i.wellFormed = true → i.encode = w

/-- Distinct legal requests have distinct words (R79): the operation and every operand the request does
not fix by a relation are in the word. The word is that of the model's encoder (log 10). -/
def Obligations.DistinctLegalRequestsHaveDistinctWords : Prop :=
  ∀ i j : Instr, i.wellFormed = true → j.wellFormed = true → i.encode = j.encode → i = j

/-- Any two patterns differ on a bit fixed in both (R76, R79). A pattern is a row of the table with its
match and mask, except for the seven contiguous loads of one form: their rows share one match and one mask,
and each has one pattern for each of its `dtype` values, with the `dtype` bits in the mask. -/
def Obligations.PatternsWithDtypeDifferOnABitFixedInBoth : Prop :=
  patterns.Pairwise (fun p q => (p.value ^^^ q.value) &&& (p.mask &&& q.mask) ≠ 0)

/-- Under the default format table a request that leads to a word leads to a word with the fixed bits of one
of its operation's patterns (R79, R178; for a contiguous load the `dtype` bits are among them, R76). -/
def Obligations.AppendedWordHasItsOperationsFixedBits : Prop :=
  ∀ (i : Instr) (s : State) (w : Word), s.formatTable = FormatTable.default → s.halted = false →
    exec i s = .next (s.append w) →
    ∃ p ∈ patterns, p.op = i.op ∧ w &&& p.mask = p.value

/-- A step runs the request presented first (R160): exec of it, whatever the view bits are (R63), with the
request gone from the port; the port is the model's own (log 7). A polymorphic request presented first is run too,
by the dispatch of R167 (R318), whatever its view bits are. The last clause is the model's choice as a whole
(logs 7 and 10): the request that the model's decoder reads from a word is presented by `withFetchWord`, and
the next step runs it. -/
def Obligations.StepRunsTheRequestPresentedFirst : Prop :=
  (∀ (s : State) (i : Instr) (v : ScalarViews) (rest : List PortEvent),
    s.port = .request (.direct i v) :: rest → step s = exec i { s with port := rest }) ∧
  (∀ (s : State) (p : PolyOp) (size : ReqInt) (zt : VReg) (pg : GovPred) (mem : MemoryOperand)
    (v : ScalarViews) (rest : List PortEvent),
    s.port = .request (.polymorphic p size zt pg mem v) :: rest →
      step s = execPolymorphic p size zt pg mem { s with port := rest }) ∧
  (∀ (s : State) (nbits w : Nat) (i : Instr), decodeTableWord nbits w = some i →
    step (s.withFetchWord nbits w) = exec i s)

/-- Addressing-mode dispatch (R167, R318, R84): each of the eleven polymorphic operations forwards the two
wired tags to the operation named, its operands unchanged, and raises AddressingMode with the tag's code
on the other two. Which of the two names is recorded when the target fails a check is left open (log 6). -/
def Obligations.PolymorphicRequestsForwardOrRaiseAddressingMode : Prop :=
  (∀ (size : ReqInt) (zt : VReg) (pg : GovPred) (rn rm : XReg),
    let mem : MemoryOperand := .scalarScalar rn rm
    Forwards .ld1b size zt pg mem (.ld1bSs size zt pg rn rm) ∧
    Forwards .ld1sw size zt pg mem (.ld1swSs size zt pg rn rm) ∧
    Forwards .ld1h size zt pg mem (.ld1hSs size zt pg rn rm) ∧
    Forwards .ld1sh size zt pg mem (.ld1shSs size zt pg rn rm) ∧
    Forwards .ld1w size zt pg mem (.ld1wSs size zt pg rn rm) ∧
    Forwards .ld1sb size zt pg mem (.ld1sbSs size zt pg rn rm) ∧
    Forwards .ld1d size zt pg mem (.ld1dSs size zt pg rn rm) ∧
    Forwards .st1b size zt pg mem (.st1bSs size zt pg rn rm) ∧
    Forwards .st1h size zt pg mem (.st1hSs size zt pg rn rm) ∧
    Forwards .st1w size zt pg mem (.st1wSs size zt pg rn rm) ∧
    Forwards .st1d size zt pg mem (.st1dSs size zt pg rn rm)) ∧
  (∀ (size : ReqInt) (zt : VReg) (pg : GovPred) (rn : XReg) (imm : ReqInt),
    let mem : MemoryOperand := .scalarImm rn imm
    Forwards .ld1b size zt pg mem (.ld1bSi size zt pg rn imm) ∧
    Forwards .ld1sw size zt pg mem (.ld1swSi size zt pg rn imm) ∧
    Forwards .ld1h size zt pg mem (.ld1hSi size zt pg rn imm) ∧
    Forwards .ld1sh size zt pg mem (.ld1shSi size zt pg rn imm) ∧
    Forwards .ld1w size zt pg mem (.ld1wSi size zt pg rn imm) ∧
    Forwards .ld1sb size zt pg mem (.ld1sbSi size zt pg rn imm) ∧
    Forwards .ld1d size zt pg mem (.ld1dSi size zt pg rn imm) ∧
    Forwards .st1b size zt pg mem (.st1bSi size zt pg rn imm) ∧
    Forwards .st1h size zt pg mem (.st1hSi size zt pg rn imm) ∧
    Forwards .st1w size zt pg mem (.st1wSi size zt pg rn imm) ∧
    Forwards .st1d size zt pg mem (.st1dSi size zt pg rn imm)) ∧
  (∀ (p : PolyOp) (size : ReqInt) (zt : VReg) (pg : GovPred) (rn : XReg) (zm : VReg) (s : State),
    s.halted = false → execPolymorphic p size zt pg (.scalarVector rn zm) s =
      .next (s.raise p.code .addressingMode 2)) ∧
  (∀ (p : PolyOp) (size : ReqInt) (zt : VReg) (pg : GovPred) (zn : VReg) (imm : ReqInt) (s : State),
    s.halted = false → execPolymorphic p size zt pg (.vectorImm zn imm) s =
      .next (s.raise p.code .addressingMode 3))

/-- `Append` (R41, R42) and its frame: the four bytes of the word at `4 * wpos`, in the sink's byte order,
the cursor one on, and every other byte and every other field as before. -/
def Obligations.AppendWritesFourBytesAtTheCursorAndNothingElse : Prop :=
  ∀ (s : State) (w : Word),
    (s.append w).wpos = s.wpos + 1 ∧
    (s.byteOrder = .little → ∀ i < 4,
      (s.append w).stream.read (4 * s.wpos + i) = some (w.extractLsb' (8 * i) 8)) ∧
    (s.byteOrder = .big → ∀ i < 4,
      (s.append w).stream.read (4 * s.wpos + i) = some (w.extractLsb' (24 - 8 * i) 8)) ∧
    (s.append w).stream.readWord s.byteOrder s.wpos = some w ∧
    (∀ a, a < 4 * s.wpos ∨ 4 * s.wpos + 4 ≤ a → (s.append w).stream.read a = s.stream.read a) ∧
    { s.append w with wpos := s.wpos, stream := s.stream } = s

/-- Trap entry (R604, R601, R23): the latch, the code of the cause, the operation and the offending value
show on the status port; the stream, the cursor and everything else stay. -/
def Obligations.RaiseRecordsTheDiagnosticAndNothingElse : Prop :=
  ∀ (s : State) (op : OpCode) (value : BitVec 32),
    (s.raise op .elementSize value).faultStatus = ⟨true, 1, op, value⟩ ∧
    (s.raise op .operandRange value).faultStatus = ⟨true, 2, op, value⟩ ∧
    (s.raise op .aliasing value).faultStatus = ⟨true, 3, op, value⟩ ∧
    (s.raise op .immediateRange value).faultStatus = ⟨true, 4, op, value⟩ ∧
    (s.raise op .addressingMode value).faultStatus = ⟨true, 5, op, value⟩ ∧
    ∀ cause, { s.raise op cause value with
      halted := s.halted, cause := s.cause, diagOp := s.diagOp, diagValue := s.diagValue } = s

/-- Words the block never produces (R86): a step that changes the stream or the cursor appends the word of
some legal request, and does nothing else; under the default format table that is the encoder's word. The
port and the encoder are the model's own (logs 7 and 10). -/
def Obligations.OnlyWordsOfLegalRequestsAreAppended : Prop :=
  ∀ s t : State, step s = .next t → t.stream ≠ s.stream ∨ t.wpos ≠ s.wpos →
    ∃ i : Instr, i.wellFormed = true ∧ t = State.append { s with port := s.port.tail } (s.wordOf i) ∧
      (s.formatTable = FormatTable.default → s.wordOf i = i.encode)

/-- Every step's frame (R24, R25, R42, R50): the cursor moves by one word or not at all, no byte but those
of the word at the cursor changes, and the parameters stay. The last clause is the model's choice: what a
step takes from the port (log 7) is its first entry, a refused request (log 8) and a code outside the
enumeration (log 9) too. -/
def Obligations.EveryStepOnlyAppendsToTheStream : Prop :=
  ∀ s t : State, step s = .next t →
    (t.wpos = s.wpos ∧ t.stream = s.stream ∨ t.wpos = s.wpos + 1) ∧
    (∀ a, a < 4 * s.wpos ∨ 4 * s.wpos + 4 ≤ a → t.stream.read a = s.stream.read a) ∧
    t.wpos0 = s.wpos0 ∧ t.byteOrder = s.byteOrder ∧ t.formatTable = s.formatTable ∧
    t.port = s.port.tail

/-- A run of legal requests (R47, R638): each word lands at the position the cursor had, in order; the run
is complete, and when it started at `WPOS0` its result is the words of the requests, one each. The words are
those of the run's format table, which under the default are the encoder's (log 10). That every
such run completes rests on the unbounded sink (log 4) and on the port (log 7), both the model's; what the
result of a run begun by a later reset is (log 18) is not claimed. -/
def Obligations.ARunOfLegalRequestsAppendsTheirWordsInOrder : Prop :=
  ∀ (s : State) (qs : List (Instr × ScalarViews)), s.halted = false →
    (∀ q ∈ qs, q.1.wellFormed = true) →
    s.port = qs.map (fun q => PortEvent.request (.direct q.1 q.2)) →
    ∃ t : State, Host.Core.run Sys2Proof.core qs.length s = .next t ∧ t.complete ∧
      t.wpos = s.wpos + qs.length ∧
      (∀ k (h : k < qs.length),
        t.stream.readWord s.byteOrder (s.wpos + k) = some (s.wordOf qs[k].1)) ∧
      (∀ a, a < 4 * s.wpos → t.stream.read a = s.stream.read a) ∧
      (s.wpos = s.wpos0 → t.resultWords = qs.map (fun q => some (s.wordOf q.1))) ∧
      (s.formatTable = FormatTable.default → ∀ q ∈ qs, s.wordOf q.1 = q.1.encode)

/-- A run with a violation (R604, R605, R606, R638): the stream holds the words of the requests before the
first illegal one and no other, the diagnostic is that request's, and what follows it is refused. The words
are those of the run's format table, which under the default are the encoder's (log 10). The unbounded sink (log 4), the port (log 7), the refused requests' leaving it (log 8) and the codes outside
the enumeration (log 9) are the model's. -/
def Obligations.ARunStopsAtItsFirstIllegalRequest : Prop :=
  ∀ (s : State) (good : List (Instr × ScalarViews)) (bad : Instr) (v : ScalarViews)
    (later : List Request), s.halted = false →
    (∀ q ∈ good, q.1.wellFormed = true) → bad.wellFormed = false →
    s.port = good.map (fun q => PortEvent.request (.direct q.1 q.2)) ++
      .request (.direct bad v) :: later.map PortEvent.request →
    ∃ (t : State) (cause : Cause) (value : BitVec 32),
      Host.Core.run Sys2Proof.core (good.length + 1 + later.length) s = .next t ∧
      t.faulted ∧ t.port = [] ∧ t.faultStatus = ⟨true, Cause.toCode cause, bad.op, value⟩ ∧
      t.wpos = s.wpos + good.length ∧
      (∀ k (h : k < good.length),
        t.stream.readWord s.byteOrder (s.wpos + k) = some (s.wordOf good[k].1)) ∧
      (s.formatTable = FormatTable.default → ∀ q ∈ good, s.wordOf q.1 = q.1.encode) ∧
      (∀ a, a < 4 * s.wpos ∨ 4 * (s.wpos + good.length) ≤ a → t.stream.read a = s.stream.read a)

/-- The shift-field codec's closed form (R68): for every legal input, `V = high:low:res` is the size plus
InverseShift modulo the size, so the size plus the shift to the left and twice the size less the shift to
the right, and its highest set bit is the size's. The spec marks R68 as derived from R65 to R67. -/
def Obligations.ShiftCodecHasTheClosedForm : Prop :=
  ∀ size ∈ [(8 : Int), 16, 32, 64], ∀ (shift : Int) (left : Bool),
    (if left then 0 ≤ shift ∧ shift < size else 0 < shift ∧ shift ≤ size) →
    let t := shiftFields size shift left
    let v : Int := ((t.high ++ t.low ++ t.res).toNat : Int)
    v = size + inverseShift size shift left % size ∧
    v = (if left then size + shift else 2 * size - shift) ∧
    size ≤ v ∧ v < 2 * size

/-- The shift-field codec's properties (R69): the size and the shift are read back from the triple with
the direction; with the direction fixed no two legal inputs share a triple; across the directions the
triples coincide as the rule says. -/
def Obligations.ShiftCodecIsRecoverableWithTheDirectionFixed : Prop :=
  (∀ size ∈ [(8 : Int), 16, 32, 64], ∀ shift : Int,
    (0 ≤ shift → shift < size →
      let t := shiftFields size shift true
      (codecSize (t.high ++ t.low ++ t.res)).toInt = size ∧
      (leftShiftOf (t.high ++ t.low ++ t.res)).toInt = shift) ∧
    (0 < shift → shift ≤ size →
      let t := shiftFields size shift false
      (codecSize (t.high ++ t.low ++ t.res)).toInt = size ∧
      (rightShiftOf (t.high ++ t.low ++ t.res)).toInt = shift)) ∧
  (∀ size ∈ [(8 : Int), 16, 32, 64], ∀ size' ∈ [(8 : Int), 16, 32, 64], ∀ shift shift' : Int,
    (0 ≤ shift → shift < size → 0 ≤ shift' → shift' < size' →
      shiftFields size shift true = shiftFields size' shift' true → size = size' ∧ shift = shift') ∧
    (0 < shift → shift ≤ size → 0 < shift' → shift' ≤ size' →
      shiftFields size shift false = shiftFields size' shift' false → size = size' ∧ shift = shift')) ∧
  (∀ size ∈ [(8 : Int), 16, 32, 64], ∀ shift : Int, 0 ≤ shift → shift < size →
    shiftFields size shift true = shiftFields size (size - shift) false)

/-- The default table is well formed (R78): in each of its 59 packers (a) no two fields overlap and (b) the
skeleton is 0 on every field bit; and (c) every operation uses one of those packers, and gives each of its
fields a value, in the field map's order and under the field's name. So it is well formed as any table of the
parameter `FormatTable` (U14) is to be. -/
def Obligations.TheDefaultFormatTableIsWellFormed : Prop :=
  Formats.all.length = 59 ∧
  (∀ f ∈ Formats.all,
    (∀ x ∈ f.fields, x.low ≤ x.high ∧ x.high < 32 ∧ f.skeleton &&& x.mask = 0) ∧
    f.fields.Pairwise (fun x y => x.mask &&& y.mask = 0)) ∧
  (∀ n, FormatTable.default.packer n ∈ Formats.all) ∧
  (∀ i : Instr, i.placement.values.map Prod.fst =
    (FormatTable.default.packer i.placement.packer).fields.map Field.name) ∧
  FormatTable.default.wellFormed

/-- A few words of the spec's examples decode to the requests they are the words of (R202, R305, R328,
R338, R507 and the store of R374), and a word of no group decodes to nothing. Those rules give the words;
that a word is decoded at all, and that 0 decodes to nothing, is the model's own decoder (log 10). -/
def Obligations.WordsWrittenOutFromTheSpecDecode : Prop :=
  decodeTableWord 32 0x04A20020 = some (.addUnpred 32 0 1 2) ∧
  decodeTableWord 32 0x2598E3E0 = some (.ptrue 32 0 31) ∧
  decodeTableWord 32 0xA540A000 = some (.ld1wSi 32 0 ⟨0, Style.zeroing⟩ 0 0) ∧
  decodeTableWord 32 0xE540E042 = some (.st1wSi 32 2 ⟨0, Style.plain⟩ 2 0) ∧
  decodeTableWord 32 0xE5A7681F = some (.st2dSs 31 0 ⟨2, Style.plain⟩ 0 7) ∧
  decodeTableWord 32 0x04D03FDF = some (.movprfxPred 64 31 ⟨7, Style.zeroing⟩ 30) ∧
  decodeTableWord 32 0x00000000 = none

/-- Liveness (R637): every step answers a next state. With nothing presented the block waits (R630), and a
code outside the enumeration is refused: it is gone from the port and nothing else changes (U2). The port
and that such a code can stand on it are the model's (logs 7 and 9). -/
def Obligations.EveryStepAnswersANextState : Prop :=
  (∀ s : State, ∃ t, step s = .next t) ∧
  (∀ s : State, s.port = [] → step s = .next s) ∧
  (∀ (s : State) (code : Nat) (rest : List PortEvent),
    s.port = .request (.unadmitted code) :: rest → step s = .next { s with port := rest })

/-- Unpredicated integer add, subtract and logical operations of spec/41_int_arith_logical.md (R202, R203,
R204, R205, R206, R207, R221, R222, R223, R224): under the default format table each request appends the
word its rule writes out, and under any it raises the cause of the first `require` line that fails, in
every form and for every operand. -/
def Obligations.AddSubtractAndLogicalUnpredicatedFollowTheirRules : Prop :=
  (∀ (size : ReqInt) (zd zn zm : VReg),
    let lines : List Check :=
      [⟨decide (size ∈ [8, 16, 32, 64]), .elementSize, size⟩]
    let fields : Word :=
      place (sizeField size) 22 ||| place zm 16 ||| place zn 5 ||| place zd 0
    Follows (.addUnpred size zd zn zm) lines (0x04200000 ||| fields) ∧
    Follows (.subUnpred size zd zn zm) lines (0x04200400 ||| fields) ∧
    Follows (.sqaddUnpred size zd zn zm) lines (0x04201000 ||| fields) ∧
    Follows (.uqaddUnpred size zd zn zm) lines (0x04201400 ||| fields) ∧
    Follows (.sqsubUnpred size zd zn zm) lines (0x04201800 ||| fields) ∧
    Follows (.uqsubUnpred size zd zn zm) lines (0x04201C00 ||| fields)) ∧
  (∀ (zd zn zm : VReg),
    let lines : List Check := []
    let fields : Word :=
      place zm 16 ||| place zn 5 ||| place zd 0
    Follows (.andUnpred zd zn zm) lines (0x04203000 ||| fields) ∧
    Follows (.orrUnpred zd zn zm) lines (0x04603000 ||| fields) ∧
    Follows (.eorUnpred zd zn zm) lines (0x04A03000 ||| fields) ∧
    Follows (.bicUnpred zd zn zm) lines (0x04E03000 ||| fields))

/-- Predicated integer add, subtract, minimum, maximum and absolute difference of
spec/41_int_arith_logical.md (R208, R209, R210, R211, R212, R213, R214, R215, R216): under the default
format table each request appends the word its rule writes out, and under any it raises the cause of the
first `require` line that fails, in every form and for every operand. -/
def Obligations.AddSubtractMinMaxDifferencePredicatedFollowTheirRules : Prop :=
  (∀ (size : ReqInt) (zd : VReg) (pg : GovPred) (zn zm : VReg),
    let lines : List Check :=
      [⟨decide (size ∈ [8, 16, 32, 64]), .elementSize, size⟩,
       ⟨decide (pg.idx ≤ 7), .operandRange, pg.idx.setWidth 32⟩,
       ⟨decide (pg.style = Style.merging), .operandRange, pg.style.setWidth 32⟩,
       ⟨decide (zd = zn), .aliasing, zd.setWidth 32⟩]
    let fields : Word :=
      place (sizeField size) 22 ||| place (pg.idx.setWidth 3) 10 ||| place zm 5 ||| place zd 0
    Follows (.addPred size zd pg zn zm) lines (0x04000000 ||| fields) ∧
    Follows (.subPred size zd pg zn zm) lines (0x04010000 ||| fields) ∧
    Follows (.subrPred size zd pg zn zm) lines (0x04030000 ||| fields) ∧
    Follows (.smaxPred size zd pg zn zm) lines (0x04080000 ||| fields) ∧
    Follows (.umaxPred size zd pg zn zm) lines (0x04090000 ||| fields) ∧
    Follows (.sminPred size zd pg zn zm) lines (0x040A0000 ||| fields) ∧
    Follows (.uminPred size zd pg zn zm) lines (0x040B0000 ||| fields) ∧
    Follows (.sabdPred size zd pg zn zm) lines (0x040C0000 ||| fields) ∧
    Follows (.uabdPred size zd pg zn zm) lines (0x040D0000 ||| fields))

/-- Predicated logical operations and the integer complex operations of spec/41_int_arith_logical.md (R217,
R218, R219, R220, R225, R226, R227): under the default format table each request appends the word its
rule writes out, and under any it raises the cause of the first `require` line that fails, in every form
and for every operand. -/
def Obligations.LogicalPredicatedAndIntegerComplexFollowTheirRules : Prop :=
  (∀ (size : ReqInt) (zd : VReg) (pg : GovPred) (zn zm : VReg),
    let lines : List Check :=
      [⟨decide (size ∈ [8, 16, 32, 64]), .elementSize, size⟩,
       ⟨decide (pg.idx ≤ 7), .operandRange, pg.idx.setWidth 32⟩,
       ⟨decide (pg.style = Style.merging), .operandRange, pg.style.setWidth 32⟩,
       ⟨decide (zd = zn), .aliasing, zd.setWidth 32⟩]
    let fields : Word :=
      place (sizeField size) 22 ||| place (pg.idx.setWidth 3) 10 ||| place zm 5 ||| place zd 0
    Follows (.orrPred size zd pg zn zm) lines (0x04180000 ||| fields) ∧
    Follows (.eorPred size zd pg zn zm) lines (0x04190000 ||| fields) ∧
    Follows (.andPred size zd pg zn zm) lines (0x041A0000 ||| fields) ∧
    Follows (.bicPred size zd pg zn zm) lines (0x041B0000 ||| fields)) ∧
  (∀ (size : ReqInt) (zd zn zm : VReg) (rot : ReqInt),
    let lines : List Check :=
      [⟨decide (size ∈ [8, 16, 32, 64]), .elementSize, size⟩,
       ⟨decide (rot ∈ [90, 270]), .immediateRange, rot⟩, ⟨decide (zd = zn), .aliasing, zd.setWidth 32⟩]
    let fields : Word :=
      place (sizeField size) 22 ||| place (BitVec.ofBool (rot == 270)) 10 ||| place zm 5 ||| place zd 0
    Follows (.cadd size zd zn zm rot) lines (0x4500D800 ||| fields) ∧
    Follows (.sqcadd size zd zn zm rot) lines (0x4501D800 ||| fields)) ∧
  (∀ (size : ReqInt) (zda zn zm : VReg) (rot : ReqInt),
    let lines : List Check :=
      [⟨decide (size ∈ [8, 16, 32, 64]), .elementSize, size⟩,
       ⟨decide (rot ∈ [0, 90, 180, 270]), .immediateRange, rot⟩]
    Follows (.cmla size zda zn zm rot) lines
      (0x44002000 ||| place (sizeField size) 22 ||| place zm 16 ||| place ((rot / 90).setWidth 2) 10
        ||| place zn 5 ||| place zda 0))

/-- Integer compares with an immediate of spec/42_compare.md (R229, R230, R231, R232, R233, R234, R235,
R236, R237, R238): under the default format table each request appends the word its rule writes out, and
under any it raises the cause of the first `require` line that fails, in every form and for every
operand. -/
def Obligations.CompareWithImmediateFollowTheirRules : Prop :=
  (∀ (size : ReqInt) (pd : PReg) (pg : GovPred) (zn : VReg) (imm : ReqInt),
    let lines : List Check :=
      [⟨decide (size ∈ [8, 16, 32, 64]), .elementSize, size⟩,
       ⟨decide (pg.idx ≤ 7), .operandRange, pg.idx.setWidth 32⟩,
       ⟨decide (pg.style = Style.zeroing), .operandRange, pg.style.setWidth 32⟩,
       ⟨decide (-16 ≤ imm.toInt ∧ imm.toInt ≤ 15), .immediateRange, imm⟩]
    let fields : Word :=
      place (sizeField size) 22 ||| place (BitVec.ofInt 5 imm.toInt) 16 ||| place (pg.idx.setWidth 3) 10
      ||| place zn 5 ||| place pd 0
    Follows (.cmpgeImm size pd pg zn imm) lines (0x25000000 ||| fields) ∧
    Follows (.cmpgtImm size pd pg zn imm) lines (0x25000010 ||| fields) ∧
    Follows (.cmpltImm size pd pg zn imm) lines (0x25002000 ||| fields) ∧
    Follows (.cmpleImm size pd pg zn imm) lines (0x25002010 ||| fields) ∧
    Follows (.cmpeqImm size pd pg zn imm) lines (0x25008000 ||| fields) ∧
    Follows (.cmpneImm size pd pg zn imm) lines (0x25008010 ||| fields)) ∧
  (∀ (size : ReqInt) (pd : PReg) (pg : GovPred) (zn : VReg) (imm : ReqInt),
    let lines : List Check :=
      [⟨decide (size ∈ [8, 16, 32, 64]), .elementSize, size⟩,
       ⟨decide (pg.idx ≤ 7), .operandRange, pg.idx.setWidth 32⟩,
       ⟨decide (pg.style = Style.zeroing), .operandRange, pg.style.setWidth 32⟩,
       ⟨decide (0 ≤ imm.toInt ∧ imm.toInt ≤ 127), .immediateRange, imm⟩]
    let fields : Word :=
      place (sizeField size) 22 ||| place (imm.setWidth 7) 14 ||| place (pg.idx.setWidth 3) 10 ||| place zn 5
      ||| place pd 0
    Follows (.cmphsImm size pd pg zn imm) lines (0x24200000 ||| fields) ∧
    Follows (.cmphiImm size pd pg zn imm) lines (0x24200010 ||| fields) ∧
    Follows (.cmploImm size pd pg zn imm) lines (0x24202000 ||| fields) ∧
    Follows (.cmplsImm size pd pg zn imm) lines (0x24202010 ||| fields))

/-- Integer compares of vectors of spec/42_compare.md (R239, R240, R241, R242, R243, R244): under the
default format table each request appends the word its rule writes out, and under any it raises the
cause of the first `require` line that fails, in every form and for every operand. -/
def Obligations.CompareVectorsFollowTheirRules : Prop :=
  (∀ (size : ReqInt) (pd : PReg) (pg : GovPred) (zn zm : VReg),
    let lines : List Check :=
      [⟨decide (size ∈ [8, 16, 32, 64]), .elementSize, size⟩,
       ⟨decide (pg.idx ≤ 7), .operandRange, pg.idx.setWidth 32⟩,
       ⟨decide (pg.style = Style.zeroing), .operandRange, pg.style.setWidth 32⟩]
    let fields : Word :=
      place (sizeField size) 22 ||| place zm 16 ||| place (pg.idx.setWidth 3) 10 ||| place zn 5
      ||| place pd 0
    Follows (.cmphsVec size pd pg zn zm) lines (0x24000000 ||| fields) ∧
    Follows (.cmphiVec size pd pg zn zm) lines (0x24000010 ||| fields) ∧
    Follows (.cmpgeVec size pd pg zn zm) lines (0x24008000 ||| fields) ∧
    Follows (.cmpgtVec size pd pg zn zm) lines (0x24008010 ||| fields) ∧
    Follows (.cmpeqVec size pd pg zn zm) lines (0x2400A000 ||| fields) ∧
    Follows (.cmpneVec size pd pg zn zm) lines (0x2400A010 ||| fields))

/-- Permutes and the table lookups of spec/43_permute_table_move.md (R248, R249, R250, R251, R252, R253,
R254, R255): under the default format table each request appends the word its rule writes out, and under
any it raises the cause of the first `require` line that fails, in every form and for every operand. -/
def Obligations.PermuteAndTableLookupFollowTheirRules : Prop :=
  (∀ (size : ReqInt) (zd zn zm : VReg),
    let lines : List Check :=
      [⟨decide (size ∈ [8, 16, 32, 64]), .elementSize, size⟩]
    let fields : Word :=
      place (sizeField size) 22 ||| place zm 16 ||| place zn 5 ||| place zd 0
    Follows (.zip1 size zd zn zm) lines (0x05206000 ||| fields) ∧
    Follows (.zip2 size zd zn zm) lines (0x05206400 ||| fields) ∧
    Follows (.uzp1 size zd zn zm) lines (0x05206800 ||| fields) ∧
    Follows (.uzp2 size zd zn zm) lines (0x05206C00 ||| fields) ∧
    Follows (.trn1 size zd zn zm) lines (0x05207000 ||| fields) ∧
    Follows (.trn2 size zd zn zm) lines (0x05207400 ||| fields) ∧
    Follows (.tbl size zd zn zm) lines (0x05203000 ||| fields) ∧
    Follows (.tbx size zd zn zm) lines (0x05202C00 ||| fields))

/-- Indexed duplicate, extract and splice of spec/43_permute_table_move.md (R256, R257, R258, R259, R260):
under the default format table each request appends the word its rule writes out, and under any it
raises the cause of the first `require` line that fails, in every form and for every operand. -/
def Obligations.IndexedDuplicateExtractSpliceFollowTheirRules : Prop :=
  (∀ (size : ReqInt) (zd zn : VReg) (index : ReqInt),
    let lines : List Check :=
      [⟨decide (size ∈ [8, 16, 32, 64, 128]), .elementSize, size⟩,
       ⟨decide (0 ≤ index.toInt ∧ index.toInt < 512 / size.toInt), .immediateRange, index⟩]
    let v7 := indexedImmediate size index
    Follows (.dupIndexed size zd zn index) lines
      (0x05202000 ||| place (v7.extractLsb' 5 2) 22 ||| place (v7.extractLsb' 0 5) 16 ||| place zn 5
        ||| place zd 0)) ∧
  (∀ (zd zn zm : VReg) (imm : ReqInt),
    let lines : List Check :=
      [⟨decide (0 ≤ imm.toInt ∧ imm.toInt ≤ 255), .immediateRange, imm⟩,
       ⟨decide (zd = zn), .aliasing, zd.setWidth 32⟩]
    Follows (.extDestructive zd zn zm imm) lines
      (0x05200000 ||| place (imm.extractLsb' 3 5) 16 ||| place (imm.extractLsb' 0 3) 10 ||| place zm 5
        ||| place zd 0)) ∧
  (∀ (zd zn zm : VReg) (imm : ReqInt),
    let lines : List Check :=
      [⟨decide (0 ≤ imm.toInt ∧ imm.toInt ≤ 255), .immediateRange, imm⟩,
       ⟨decide (zm.toNat = (zn.toNat + 1) % 32), .aliasing, zn.setWidth 32⟩]
    Follows (.extConstructive zd zn zm imm) lines
      (0x05600000 ||| place (imm.extractLsb' 3 5) 16 ||| place (imm.extractLsb' 0 3) 10 ||| place zn 5
        ||| place zd 0)) ∧
  (∀ (size : ReqInt) (zd : VReg) (pv : GovPred) (zn zm : VReg),
    let lines : List Check :=
      [⟨decide (size ∈ [8, 16, 32, 64]), .elementSize, size⟩,
       ⟨decide (pv.idx ≤ 7), .operandRange, pv.idx.setWidth 32⟩,
       ⟨decide (pv.style = Style.plain), .operandRange, pv.style.setWidth 32⟩,
       ⟨decide (zd = zn), .aliasing, zd.setWidth 32⟩]
    Follows (.spliceDestructive size zd pv zn zm) lines
      (0x052C8000 ||| place (sizeField size) 22 ||| place (pv.idx.setWidth 3) 10 ||| place zm 5
        ||| place zd 0)) ∧
  (∀ (size : ReqInt) (zd : VReg) (pv : GovPred) (zn zm : VReg),
    let lines : List Check :=
      [⟨decide (size ∈ [8, 16, 32, 64]), .elementSize, size⟩,
       ⟨decide (pv.idx ≤ 7), .operandRange, pv.idx.setWidth 32⟩,
       ⟨decide (pv.style = Style.plain), .operandRange, pv.style.setWidth 32⟩,
       ⟨decide (zm.toNat = (zn.toNat + 1) % 32), .aliasing, zn.setWidth 32⟩]
    Follows (.spliceConstructive size zd pv zn zm) lines
      (0x052D8000 ||| place (sizeField size) 22 ||| place (pv.idx.setWidth 3) 10 ||| place zn 5
        ||| place zd 0))

/-- Predicated multiply and divide of spec/44_muldiv_reduction.md (R262, R263, R264, R265, R266, R267,
R268): under the default format table each request appends the word its rule writes out, and under any
it raises the cause of the first `require` line that fails, in every form and for every operand. -/
def Obligations.MultiplyDividePredicatedFollowTheirRules : Prop :=
  (∀ (size : ReqInt) (zd : VReg) (pg : GovPred) (zn zm : VReg),
    let lines : List Check :=
      [⟨decide (size ∈ [8, 16, 32, 64]), .elementSize, size⟩,
       ⟨decide (pg.idx ≤ 7), .operandRange, pg.idx.setWidth 32⟩,
       ⟨decide (pg.style = Style.merging), .operandRange, pg.style.setWidth 32⟩,
       ⟨decide (zd = zn), .aliasing, zd.setWidth 32⟩]
    let fields : Word :=
      place (sizeField size) 22 ||| place (pg.idx.setWidth 3) 10 ||| place zm 5 ||| place zd 0
    Follows (.mulPred size zd pg zn zm) lines (0x04100000 ||| fields) ∧
    Follows (.smulhPred size zd pg zn zm) lines (0x04120000 ||| fields) ∧
    Follows (.umulhPred size zd pg zn zm) lines (0x04130000 ||| fields)) ∧
  (∀ (size : ReqInt) (zd : VReg) (pg : GovPred) (zn zm : VReg),
    let lines : List Check :=
      [⟨decide (size ∈ [32, 64]), .elementSize, size⟩,
       ⟨decide (pg.idx ≤ 7), .operandRange, pg.idx.setWidth 32⟩,
       ⟨decide (pg.style = Style.merging), .operandRange, pg.style.setWidth 32⟩,
       ⟨decide (zd = zn), .aliasing, zd.setWidth 32⟩]
    let fields : Word :=
      place (sizeField size) 22 ||| place (pg.idx.setWidth 3) 10 ||| place zm 5 ||| place zd 0
    Follows (.sdivPred size zd pg zn zm) lines (0x04140000 ||| fields) ∧
    Follows (.udivPred size zd pg zn zm) lines (0x04150000 ||| fields) ∧
    Follows (.sdivrPred size zd pg zn zm) lines (0x04160000 ||| fields) ∧
    Follows (.udivrPred size zd pg zn zm) lines (0x04170000 ||| fields))

/-- Reductions of spec/44_muldiv_reduction.md (R269, R270, R271, R272, R273, R274, R275, R276, R277): under
the default format table each request appends the word its rule writes out, and under any it raises the
cause of the first `require` line that fails, in every form and for every operand. -/
def Obligations.ReductionsFollowTheirRules : Prop :=
  (∀ (size : ReqInt) (vd : VReg) (pg : GovPred) (zn : VReg),
    let lines : List Check :=
      [⟨decide (size ∈ [8, 16, 32]), .elementSize, size⟩,
       ⟨decide (pg.idx ≤ 7), .operandRange, pg.idx.setWidth 32⟩,
       ⟨decide (pg.style = Style.plain), .operandRange, pg.style.setWidth 32⟩]
    Follows (.saddv size vd pg zn) lines
      (0x04002000 ||| place (sizeField size) 22 ||| place (pg.idx.setWidth 3) 10 ||| place zn 5
        ||| place vd 0)) ∧
  (∀ (size : ReqInt) (vd : VReg) (pg : GovPred) (zn : VReg),
    let lines : List Check :=
      [⟨decide (size ∈ [8, 16, 32, 64]), .elementSize, size⟩,
       ⟨decide (pg.idx ≤ 7), .operandRange, pg.idx.setWidth 32⟩,
       ⟨decide (pg.style = Style.plain), .operandRange, pg.style.setWidth 32⟩]
    let fields : Word :=
      place (sizeField size) 22 ||| place (pg.idx.setWidth 3) 10 ||| place zn 5 ||| place vd 0
    Follows (.uaddv size vd pg zn) lines (0x04012000 ||| fields) ∧
    Follows (.smaxv size vd pg zn) lines (0x04082000 ||| fields) ∧
    Follows (.umaxv size vd pg zn) lines (0x04092000 ||| fields) ∧
    Follows (.sminv size vd pg zn) lines (0x040A2000 ||| fields) ∧
    Follows (.uminv size vd pg zn) lines (0x040B2000 ||| fields) ∧
    Follows (.orv size vd pg zn) lines (0x04182000 ||| fields) ∧
    Follows (.eorv size vd pg zn) lines (0x04192000 ||| fields) ∧
    Follows (.andv size vd pg zn) lines (0x041A2000 ||| fields))

/-- Predicate logical operations, first part of spec/45_predicate.md (R280, R281, R282, R283, R284, R285,
R286, R287, R288, R289): under the default format table each request appends the word its rule writes
out, and under any it raises the cause of the first `require` line that fails, in every form and for
every operand. -/
def Obligations.PredicateLogicalFollowTheirRules : Prop :=
  (∀ (pd : PReg) (pg : GovPred) (pn pm : PReg),
    let lines : List Check :=
      [⟨decide (pg.style = Style.zeroing), .operandRange, pg.style.setWidth 32⟩]
    let fields : Word :=
      place pm 16 ||| place pg.idx 10 ||| place pn 5 ||| place pd 0
    Follows (.andP pd pg pn pm) lines (0x25004000 ||| fields) ∧
    Follows (.bicP pd pg pn pm) lines (0x25004010 ||| fields) ∧
    Follows (.eorP pd pg pn pm) lines (0x25004200 ||| fields)) ∧
  (∀ (pd : PReg) (pg : GovPred) (pn pm : PReg),
    let lines : List Check :=
      [⟨decide (pg.style = Style.plain), .operandRange, pg.style.setWidth 32⟩]
    Follows (.selP pd pg pn pm) lines
      (0x25004210 ||| place pm 16 ||| place pg.idx 10 ||| place pn 5 ||| place pd 0)) ∧
  (∀ (pd : PReg) (pg : GovPred) (pn pm : PReg),
    let lines : List Check :=
      [⟨decide (pg.style = Style.zeroing), .operandRange, pg.style.setWidth 32⟩]
    let fields : Word :=
      place pm 16 ||| place pg.idx 10 ||| place pn 5 ||| place pd 0
    Follows (.orrP pd pg pn pm) lines (0x25804000 ||| fields) ∧
    Follows (.ornP pd pg pn pm) lines (0x25804010 ||| fields) ∧
    Follows (.norP pd pg pn pm) lines (0x25804200 ||| fields) ∧
    Follows (.nandP pd pg pn pm) lines (0x25804210 ||| fields) ∧
    Follows (.andsP pd pg pn pm) lines (0x25404000 ||| fields) ∧
    Follows (.bicsP pd pg pn pm) lines (0x25404010 ||| fields))

/-- Predicate logical operations, second part, and the propagating breaks of spec/45_predicate.md (R290,
R291, R292, R293, R294, R295, R296, R297, R298): under the default format table each request appends the
word its rule writes out, and under any it raises the cause of the first `require` line that fails, in
every form and for every operand. -/
def Obligations.PredicateLogicalRestAndPropagatingBreaksFollowTheirRules : Prop :=
  (∀ (pd : PReg) (pg : GovPred) (pn pm : PReg),
    let lines : List Check :=
      [⟨decide (pg.style = Style.zeroing), .operandRange, pg.style.setWidth 32⟩]
    let fields : Word :=
      place pm 16 ||| place pg.idx 10 ||| place pn 5 ||| place pd 0
    Follows (.eorsP pd pg pn pm) lines (0x25404200 ||| fields) ∧
    Follows (.orrsP pd pg pn pm) lines (0x25C04000 ||| fields) ∧
    Follows (.ornsP pd pg pn pm) lines (0x25C04010 ||| fields) ∧
    Follows (.norsP pd pg pn pm) lines (0x25C04200 ||| fields) ∧
    Follows (.nandsP pd pg pn pm) lines (0x25C04210 ||| fields) ∧
    Follows (.brkpa pd pg pn pm) lines (0x2500C000 ||| fields) ∧
    Follows (.brkpb pd pg pn pm) lines (0x2500C010 ||| fields) ∧
    Follows (.brkpas pd pg pn pm) lines (0x2540C000 ||| fields) ∧
    Follows (.brkpbs pd pg pn pm) lines (0x2540C010 ||| fields))

/-- Partition breaks and the break to the next partition of spec/45_predicate.md (R299, R300, R301, R302,
R303, R304): under the default format table each request appends the word its rule writes out, and under
any it raises the cause of the first `require` line that fails, in every form and for every operand. -/
def Obligations.PartitionBreaksFollowTheirRules : Prop :=
  (∀ (pd : PReg) (pg : GovPred) (pn : PReg),
    let lines : List Check :=
      [⟨decide (pg.style ∈ [Style.merging, Style.zeroing]), .operandRange, pg.style.setWidth 32⟩]
    Follows (.brka pd pg pn) lines
      (0x25104000 ||| place pg.idx 10 ||| place pn 5 ||| place (BitVec.ofBool (pg.style == Style.merging)) 4
        ||| place pd 0)) ∧
  (∀ (pd : PReg) (pg : GovPred) (pn : PReg),
    let lines : List Check :=
      [⟨decide (pg.style = Style.zeroing), .operandRange, pg.style.setWidth 32⟩]
    Follows (.brkas pd pg pn) lines (0x25504000 ||| place pg.idx 10 ||| place pn 5 ||| place pd 0)) ∧
  (∀ (pd : PReg) (pg : GovPred) (pn : PReg),
    let lines : List Check :=
      [⟨decide (pg.style ∈ [Style.merging, Style.zeroing]), .operandRange, pg.style.setWidth 32⟩]
    Follows (.brkb pd pg pn) lines
      (0x25904000 ||| place pg.idx 10 ||| place pn 5 ||| place (BitVec.ofBool (pg.style == Style.merging)) 4
        ||| place pd 0)) ∧
  (∀ (pd : PReg) (pg : GovPred) (pn : PReg),
    let lines : List Check :=
      [⟨decide (pg.style = Style.zeroing), .operandRange, pg.style.setWidth 32⟩]
    Follows (.brkbs pd pg pn) lines (0x25D04000 ||| place pg.idx 10 ||| place pn 5 ||| place pd 0)) ∧
  (∀ (pd : PReg) (pg : GovPred) (pn pm : PReg),
    let lines : List Check :=
      [⟨decide (pg.style = Style.zeroing), .operandRange, pg.style.setWidth 32⟩,
       ⟨decide (pd = pm), .aliasing, pd.setWidth 32⟩]
    let fields : Word :=
      place pg.idx 10 ||| place pn 5 ||| place pd 0
    Follows (.brkn pd pg pn pm) lines (0x25184000 ||| fields) ∧
    Follows (.brkns pd pg pn pm) lines (0x25584000 ||| fields))

/-- Predicate initialise, test, first, next and first-fault register operations of spec/45_predicate.md
(R305, R306, R307, R308, R309, R310, R311, R312, R313, R314, R315): under the default format table each
request appends the word its rule writes out, and under any it raises the cause of the first `require`
line that fails, in every form and for every operand. -/
def Obligations.PredicateMiscellaneousFollowTheirRules : Prop :=
  (∀ (size : ReqInt) (pd : PReg) (pattern : ReqInt),
    let lines : List Check :=
      [⟨decide (size ∈ [8, 16, 32, 64]), .elementSize, size⟩,
       ⟨decide (0 ≤ pattern.toInt ∧ pattern.toInt ≤ 31), .immediateRange, pattern⟩]
    let fields : Word :=
      place (sizeField size) 22 ||| place (pattern.setWidth 5) 5 ||| place pd 0
    Follows (.ptrue size pd pattern) lines (0x2518E000 ||| fields) ∧
    Follows (.ptrues size pd pattern) lines (0x2519E000 ||| fields)) ∧
  (∀ (pd : PReg),
    let lines : List Check := []
    Follows (.pfalse pd) lines (0x2518E400 ||| place pd 0)) ∧
  (∀ (pg : GovPred) (pn : PReg),
    let lines : List Check :=
      [⟨decide (pg.style = Style.plain), .operandRange, pg.style.setWidth 32⟩]
    Follows (.ptest pg pn) lines (0x2550C000 ||| place pg.idx 10 ||| place pn 5)) ∧
  (∀ (pd : PReg) (pg : GovPred) (pn : PReg),
    let lines : List Check :=
      [⟨decide (pg.style = Style.plain), .operandRange, pg.style.setWidth 32⟩,
       ⟨decide (pd = pn), .aliasing, pd.setWidth 32⟩]
    Follows (.pfirst pd pg pn) lines (0x2558C000 ||| place pg.idx 5 ||| place pd 0)) ∧
  (∀ (size : ReqInt) (pd : PReg) (pg : GovPred) (pn : PReg),
    let lines : List Check :=
      [⟨decide (size ∈ [8, 16, 32, 64]), .elementSize, size⟩,
       ⟨decide (pg.style = Style.plain), .operandRange, pg.style.setWidth 32⟩,
       ⟨decide (pd = pn), .aliasing, pd.setWidth 32⟩]
    Follows (.pnext size pd pg pn) lines
      (0x2519C400 ||| place (sizeField size) 22 ||| place pg.idx 5 ||| place pd 0)) ∧
  (∀ (pd : PReg),
    let lines : List Check := []
    Follows (.rdffrUnpred pd) lines (0x2519F000 ||| place pd 0)) ∧
  (∀ (pd : PReg) (pg : GovPred),
    let lines : List Check :=
      [⟨decide (pg.style = Style.zeroing), .operandRange, pg.style.setWidth 32⟩]
    let fields : Word :=
      place pg.idx 5 ||| place pd 0
    Follows (.rdffrPred pd pg) lines (0x2518F000 ||| fields) ∧
    Follows (.rdffrsPred pd pg) lines (0x2558F000 ||| fields)) ∧
  (
    let lines : List Check := []
    Follows .setffr lines (0x252C9000)) ∧
  (∀ (pn : PReg),
    let lines : List Check := []
    Follows (.wrffr pn) lines (0x25289000 ||| place pn 5))

/-- Contiguous loads and stores, scalar base plus scalar index of spec/46_loadstore_contiguous.md (R319,
R321, R323, R325, R327, R329, R331, R333, R335, R337, R339): under the default format table each request
appends the word its rule writes out, and under any it raises the cause of the first `require` line that
fails, in every form and for every operand. -/
def Obligations.ContiguousScalarIndexFollowTheirRules : Prop :=
  (∀ (size : ReqInt) (zt : VReg) (pg : GovPred) (rn rm : XReg),
    let lines : List Check :=
      [⟨decide (size ∈ [8, 16, 32, 64]), .elementSize, size⟩,
       ⟨decide (pg.idx ≤ 7), .operandRange, pg.idx.setWidth 32⟩,
       ⟨decide (pg.style = Style.zeroing), .operandRange, pg.style.setWidth 32⟩]
    Follows (.ld1bSs size zt pg rn rm) lines
      (0xA4004000 ||| place (sizeField4 size) 21 ||| place rm 16 ||| place (pg.idx.setWidth 3) 10
        ||| place rn 5 ||| place zt 0)) ∧
  (∀ (size : ReqInt) (zt : VReg) (pg : GovPred) (rn rm : XReg),
    let lines : List Check :=
      [⟨decide (size ∈ [64]), .elementSize, size⟩, ⟨decide (pg.idx ≤ 7), .operandRange, pg.idx.setWidth 32⟩,
       ⟨decide (pg.style = Style.zeroing), .operandRange, pg.style.setWidth 32⟩]
    Follows (.ld1swSs size zt pg rn rm) lines
      (0xA4004000 ||| place 0b0100#4 21 ||| place rm 16 ||| place (pg.idx.setWidth 3) 10 ||| place rn 5
        ||| place zt 0)) ∧
  (∀ (size : ReqInt) (zt : VReg) (pg : GovPred) (rn rm : XReg),
    let lines : List Check :=
      [⟨decide (size ∈ [16, 32, 64]), .elementSize, size⟩,
       ⟨decide (pg.idx ≤ 7), .operandRange, pg.idx.setWidth 32⟩,
       ⟨decide (pg.style = Style.zeroing), .operandRange, pg.style.setWidth 32⟩]
    Follows (.ld1hSs size zt pg rn rm) lines
      (0xA4004000 ||| place (0b0100 + sizeField4 size) 21 ||| place rm 16 ||| place (pg.idx.setWidth 3) 10
        ||| place rn 5 ||| place zt 0)) ∧
  (∀ (size : ReqInt) (zt : VReg) (pg : GovPred) (rn rm : XReg),
    let lines : List Check :=
      [⟨decide (size ∈ [32, 64]), .elementSize, size⟩,
       ⟨decide (pg.idx ≤ 7), .operandRange, pg.idx.setWidth 32⟩,
       ⟨decide (pg.style = Style.zeroing), .operandRange, pg.style.setWidth 32⟩]
    Follows (.ld1shSs size zt pg rn rm) lines
      (0xA4004000 ||| place (0b1011 - sizeField4 size) 21 ||| place rm 16 ||| place (pg.idx.setWidth 3) 10
        ||| place rn 5 ||| place zt 0)) ∧
  (∀ (size : ReqInt) (zt : VReg) (pg : GovPred) (rn rm : XReg),
    let lines : List Check :=
      [⟨decide (size ∈ [32, 64]), .elementSize, size⟩,
       ⟨decide (pg.idx ≤ 7), .operandRange, pg.idx.setWidth 32⟩,
       ⟨decide (pg.style = Style.zeroing), .operandRange, pg.style.setWidth 32⟩]
    Follows (.ld1wSs size zt pg rn rm) lines
      (0xA4004000 ||| place (0b1000 + sizeField4 size) 21 ||| place rm 16 ||| place (pg.idx.setWidth 3) 10
        ||| place rn 5 ||| place zt 0)) ∧
  (∀ (size : ReqInt) (zt : VReg) (pg : GovPred) (rn rm : XReg),
    let lines : List Check :=
      [⟨decide (size ∈ [16, 32, 64]), .elementSize, size⟩,
       ⟨decide (pg.idx ≤ 7), .operandRange, pg.idx.setWidth 32⟩,
       ⟨decide (pg.style = Style.zeroing), .operandRange, pg.style.setWidth 32⟩]
    Follows (.ld1sbSs size zt pg rn rm) lines
      (0xA4004000 ||| place (0b1111 - sizeField4 size) 21 ||| place rm 16 ||| place (pg.idx.setWidth 3) 10
        ||| place rn 5 ||| place zt 0)) ∧
  (∀ (size : ReqInt) (zt : VReg) (pg : GovPred) (rn rm : XReg),
    let lines : List Check :=
      [⟨decide (size ∈ [64]), .elementSize, size⟩, ⟨decide (pg.idx ≤ 7), .operandRange, pg.idx.setWidth 32⟩,
       ⟨decide (pg.style = Style.zeroing), .operandRange, pg.style.setWidth 32⟩]
    Follows (.ld1dSs size zt pg rn rm) lines
      (0xA4004000 ||| place 0b1111#4 21 ||| place rm 16 ||| place (pg.idx.setWidth 3) 10 ||| place rn 5
        ||| place zt 0)) ∧
  (∀ (size : ReqInt) (zt : VReg) (pg : GovPred) (rn rm : XReg),
    let lines : List Check :=
      [⟨decide (size ∈ [8, 16, 32, 64]), .elementSize, size⟩,
       ⟨decide (pg.idx ≤ 7), .operandRange, pg.idx.setWidth 32⟩,
       ⟨decide (pg.style = Style.plain), .operandRange, pg.style.setWidth 32⟩]
    Follows (.st1bSs size zt pg rn rm) lines
      (0xE4004000 ||| place (sizeField size) 21 ||| place rm 16 ||| place (pg.idx.setWidth 3) 10
        ||| place rn 5 ||| place zt 0)) ∧
  (∀ (size : ReqInt) (zt : VReg) (pg : GovPred) (rn rm : XReg),
    let lines : List Check :=
      [⟨decide (size ∈ [16, 32, 64]), .elementSize, size⟩,
       ⟨decide (pg.idx ≤ 7), .operandRange, pg.idx.setWidth 32⟩,
       ⟨decide (pg.style = Style.plain), .operandRange, pg.style.setWidth 32⟩]
    Follows (.st1hSs size zt pg rn rm) lines
      (0xE4804000 ||| place (sizeField size) 21 ||| place rm 16 ||| place (pg.idx.setWidth 3) 10
        ||| place rn 5 ||| place zt 0)) ∧
  (∀ (size : ReqInt) (zt : VReg) (pg : GovPred) (rn rm : XReg),
    let lines : List Check :=
      [⟨decide (size ∈ [32, 64]), .elementSize, size⟩,
       ⟨decide (pg.idx ≤ 7), .operandRange, pg.idx.setWidth 32⟩,
       ⟨decide (pg.style = Style.plain), .operandRange, pg.style.setWidth 32⟩]
    Follows (.st1wSs size zt pg rn rm) lines
      (0xE5004000 ||| place (sizeField size) 21 ||| place rm 16 ||| place (pg.idx.setWidth 3) 10
        ||| place rn 5 ||| place zt 0)) ∧
  (∀ (size : ReqInt) (zt : VReg) (pg : GovPred) (rn rm : XReg),
    let lines : List Check :=
      [⟨decide (size ∈ [64]), .elementSize, size⟩, ⟨decide (pg.idx ≤ 7), .operandRange, pg.idx.setWidth 32⟩,
       ⟨decide (pg.style = Style.plain), .operandRange, pg.style.setWidth 32⟩]
    Follows (.st1dSs size zt pg rn rm) lines
      (0xE5804000 ||| place (sizeField size) 21 ||| place rm 16 ||| place (pg.idx.setWidth 3) 10
        ||| place rn 5 ||| place zt 0))

/-- Contiguous loads and stores, scalar base plus immediate of spec/46_loadstore_contiguous.md (R320, R322,
R324, R326, R328, R330, R332, R334, R336, R338, R340): under the default format table each request
appends the word its rule writes out, and under any it raises the cause of the first `require` line that
fails, in every form and for every operand. -/
def Obligations.ContiguousImmediateFollowTheirRules : Prop :=
  (∀ (size : ReqInt) (zt : VReg) (pg : GovPred) (rn : XReg) (imm : ReqInt),
    let lines : List Check :=
      [⟨decide (size ∈ [8, 16, 32, 64]), .elementSize, size⟩,
       ⟨decide (pg.idx ≤ 7), .operandRange, pg.idx.setWidth 32⟩,
       ⟨decide (pg.style = Style.zeroing), .operandRange, pg.style.setWidth 32⟩,
       ⟨decide (-8 ≤ imm.toInt ∧ imm.toInt ≤ 7), .immediateRange, imm⟩]
    Follows (.ld1bSi size zt pg rn imm) lines
      (0xA400A000 ||| place (sizeField4 size) 21 ||| place (BitVec.ofInt 4 imm.toInt) 16
        ||| place (pg.idx.setWidth 3) 10 ||| place rn 5 ||| place zt 0)) ∧
  (∀ (size : ReqInt) (zt : VReg) (pg : GovPred) (rn : XReg) (imm : ReqInt),
    let lines : List Check :=
      [⟨decide (size ∈ [64]), .elementSize, size⟩, ⟨decide (pg.idx ≤ 7), .operandRange, pg.idx.setWidth 32⟩,
       ⟨decide (pg.style = Style.zeroing), .operandRange, pg.style.setWidth 32⟩,
       ⟨decide (-8 ≤ imm.toInt ∧ imm.toInt ≤ 7), .immediateRange, imm⟩]
    Follows (.ld1swSi size zt pg rn imm) lines
      (0xA400A000 ||| place 0b0100#4 21 ||| place (BitVec.ofInt 4 imm.toInt) 16
        ||| place (pg.idx.setWidth 3) 10 ||| place rn 5 ||| place zt 0)) ∧
  (∀ (size : ReqInt) (zt : VReg) (pg : GovPred) (rn : XReg) (imm : ReqInt),
    let lines : List Check :=
      [⟨decide (size ∈ [16, 32, 64]), .elementSize, size⟩,
       ⟨decide (pg.idx ≤ 7), .operandRange, pg.idx.setWidth 32⟩,
       ⟨decide (pg.style = Style.zeroing), .operandRange, pg.style.setWidth 32⟩,
       ⟨decide (-8 ≤ imm.toInt ∧ imm.toInt ≤ 7), .immediateRange, imm⟩]
    Follows (.ld1hSi size zt pg rn imm) lines
      (0xA400A000 ||| place (0b0100 + sizeField4 size) 21 ||| place (BitVec.ofInt 4 imm.toInt) 16
        ||| place (pg.idx.setWidth 3) 10 ||| place rn 5 ||| place zt 0)) ∧
  (∀ (size : ReqInt) (zt : VReg) (pg : GovPred) (rn : XReg) (imm : ReqInt),
    let lines : List Check :=
      [⟨decide (size ∈ [32, 64]), .elementSize, size⟩,
       ⟨decide (pg.idx ≤ 7), .operandRange, pg.idx.setWidth 32⟩,
       ⟨decide (pg.style = Style.zeroing), .operandRange, pg.style.setWidth 32⟩,
       ⟨decide (-8 ≤ imm.toInt ∧ imm.toInt ≤ 7), .immediateRange, imm⟩]
    Follows (.ld1shSi size zt pg rn imm) lines
      (0xA400A000 ||| place (0b1011 - sizeField4 size) 21 ||| place (BitVec.ofInt 4 imm.toInt) 16
        ||| place (pg.idx.setWidth 3) 10 ||| place rn 5 ||| place zt 0)) ∧
  (∀ (size : ReqInt) (zt : VReg) (pg : GovPred) (rn : XReg) (imm : ReqInt),
    let lines : List Check :=
      [⟨decide (size ∈ [32, 64]), .elementSize, size⟩,
       ⟨decide (pg.idx ≤ 7), .operandRange, pg.idx.setWidth 32⟩,
       ⟨decide (pg.style = Style.zeroing), .operandRange, pg.style.setWidth 32⟩,
       ⟨decide (-8 ≤ imm.toInt ∧ imm.toInt ≤ 7), .immediateRange, imm⟩]
    Follows (.ld1wSi size zt pg rn imm) lines
      (0xA400A000 ||| place (0b1000 + sizeField4 size) 21 ||| place (BitVec.ofInt 4 imm.toInt) 16
        ||| place (pg.idx.setWidth 3) 10 ||| place rn 5 ||| place zt 0)) ∧
  (∀ (size : ReqInt) (zt : VReg) (pg : GovPred) (rn : XReg) (imm : ReqInt),
    let lines : List Check :=
      [⟨decide (size ∈ [16, 32, 64]), .elementSize, size⟩,
       ⟨decide (pg.idx ≤ 7), .operandRange, pg.idx.setWidth 32⟩,
       ⟨decide (pg.style = Style.zeroing), .operandRange, pg.style.setWidth 32⟩,
       ⟨decide (-8 ≤ imm.toInt ∧ imm.toInt ≤ 7), .immediateRange, imm⟩]
    Follows (.ld1sbSi size zt pg rn imm) lines
      (0xA400A000 ||| place (0b1111 - sizeField4 size) 21 ||| place (BitVec.ofInt 4 imm.toInt) 16
        ||| place (pg.idx.setWidth 3) 10 ||| place rn 5 ||| place zt 0)) ∧
  (∀ (size : ReqInt) (zt : VReg) (pg : GovPred) (rn : XReg) (imm : ReqInt),
    let lines : List Check :=
      [⟨decide (size ∈ [64]), .elementSize, size⟩, ⟨decide (pg.idx ≤ 7), .operandRange, pg.idx.setWidth 32⟩,
       ⟨decide (pg.style = Style.zeroing), .operandRange, pg.style.setWidth 32⟩,
       ⟨decide (-8 ≤ imm.toInt ∧ imm.toInt ≤ 7), .immediateRange, imm⟩]
    Follows (.ld1dSi size zt pg rn imm) lines
      (0xA400A000 ||| place 0b1111#4 21 ||| place (BitVec.ofInt 4 imm.toInt) 16
        ||| place (pg.idx.setWidth 3) 10 ||| place rn 5 ||| place zt 0)) ∧
  (∀ (size : ReqInt) (zt : VReg) (pg : GovPred) (rn : XReg) (imm : ReqInt),
    let lines : List Check :=
      [⟨decide (size ∈ [8, 16, 32, 64]), .elementSize, size⟩,
       ⟨decide (pg.idx ≤ 7), .operandRange, pg.idx.setWidth 32⟩,
       ⟨decide (pg.style = Style.plain), .operandRange, pg.style.setWidth 32⟩,
       ⟨decide (-8 ≤ imm.toInt ∧ imm.toInt ≤ 7), .immediateRange, imm⟩]
    Follows (.st1bSi size zt pg rn imm) lines
      (0xE400E000 ||| place (sizeField size) 21 ||| place (BitVec.ofInt 4 imm.toInt) 16
        ||| place (pg.idx.setWidth 3) 10 ||| place rn 5 ||| place zt 0)) ∧
  (∀ (size : ReqInt) (zt : VReg) (pg : GovPred) (rn : XReg) (imm : ReqInt),
    let lines : List Check :=
      [⟨decide (size ∈ [16, 32, 64]), .elementSize, size⟩,
       ⟨decide (pg.idx ≤ 7), .operandRange, pg.idx.setWidth 32⟩,
       ⟨decide (pg.style = Style.plain), .operandRange, pg.style.setWidth 32⟩,
       ⟨decide (-8 ≤ imm.toInt ∧ imm.toInt ≤ 7), .immediateRange, imm⟩]
    Follows (.st1hSi size zt pg rn imm) lines
      (0xE480E000 ||| place (sizeField size) 21 ||| place (BitVec.ofInt 4 imm.toInt) 16
        ||| place (pg.idx.setWidth 3) 10 ||| place rn 5 ||| place zt 0)) ∧
  (∀ (size : ReqInt) (zt : VReg) (pg : GovPred) (rn : XReg) (imm : ReqInt),
    let lines : List Check :=
      [⟨decide (size ∈ [32, 64]), .elementSize, size⟩,
       ⟨decide (pg.idx ≤ 7), .operandRange, pg.idx.setWidth 32⟩,
       ⟨decide (pg.style = Style.plain), .operandRange, pg.style.setWidth 32⟩,
       ⟨decide (-8 ≤ imm.toInt ∧ imm.toInt ≤ 7), .immediateRange, imm⟩]
    Follows (.st1wSi size zt pg rn imm) lines
      (0xE500E000 ||| place (sizeField size) 21 ||| place (BitVec.ofInt 4 imm.toInt) 16
        ||| place (pg.idx.setWidth 3) 10 ||| place rn 5 ||| place zt 0)) ∧
  (∀ (size : ReqInt) (zt : VReg) (pg : GovPred) (rn : XReg) (imm : ReqInt),
    let lines : List Check :=
      [⟨decide (size ∈ [64]), .elementSize, size⟩, ⟨decide (pg.idx ≤ 7), .operandRange, pg.idx.setWidth 32⟩,
       ⟨decide (pg.style = Style.plain), .operandRange, pg.style.setWidth 32⟩,
       ⟨decide (-8 ≤ imm.toInt ∧ imm.toInt ≤ 7), .immediateRange, imm⟩]
    Follows (.st1dSi size zt pg rn imm) lines
      (0xE580E000 ||| place (sizeField size) 21 ||| place (BitVec.ofInt 4 imm.toInt) 16
        ||| place (pg.idx.setWidth 3) 10 ||| place rn 5 ||| place zt 0))

/-- Structure loads, scalar base plus scalar index of spec/46_loadstore_structured_ld.md (R343, R345, R347,
R349, R351, R353, R355, R357, R359, R361, R363, R365): under the default format table each request
appends the word its rule writes out, and under any it raises the cause of the first `require` line that
fails, in every form and for every operand. -/
def Obligations.StructureLoadsScalarIndexFollowTheirRules : Prop :=
  (∀ (zt1 zt2 : VReg) (pg : GovPred) (rn rm : XReg),
    let lines : List Check :=
      [⟨decide (pg.idx ≤ 7), .operandRange, pg.idx.setWidth 32⟩,
       ⟨decide (pg.style = Style.zeroing), .operandRange, pg.style.setWidth 32⟩,
       ⟨decide (zt2.toNat = (zt1.toNat + 1) % 32), .aliasing, zt1.setWidth 32⟩]
    let fields : Word :=
      place rm 16 ||| place (pg.idx.setWidth 3) 10 ||| place rn 5 ||| place zt1 0
    Follows (.ld2bSs zt1 zt2 pg rn rm) lines (0xA420C000 ||| fields) ∧
    Follows (.ld2hSs zt1 zt2 pg rn rm) lines (0xA4A0C000 ||| fields) ∧
    Follows (.ld2wSs zt1 zt2 pg rn rm) lines (0xA520C000 ||| fields) ∧
    Follows (.ld2dSs zt1 zt2 pg rn rm) lines (0xA5A0C000 ||| fields)) ∧
  (∀ (zt1 zt2 zt3 : VReg) (pg : GovPred) (rn rm : XReg),
    let lines : List Check :=
      [⟨decide (pg.idx ≤ 7), .operandRange, pg.idx.setWidth 32⟩,
       ⟨decide (pg.style = Style.zeroing), .operandRange, pg.style.setWidth 32⟩,
       ⟨decide (zt2.toNat = (zt1.toNat + 1) % 32 ∧ zt3.toNat = (zt1.toNat + 2) % 32), .aliasing, zt1.setWidth 32⟩]
    let fields : Word :=
      place rm 16 ||| place (pg.idx.setWidth 3) 10 ||| place rn 5 ||| place zt1 0
    Follows (.ld3bSs zt1 zt2 zt3 pg rn rm) lines (0xA440C000 ||| fields) ∧
    Follows (.ld3hSs zt1 zt2 zt3 pg rn rm) lines (0xA4C0C000 ||| fields) ∧
    Follows (.ld3wSs zt1 zt2 zt3 pg rn rm) lines (0xA540C000 ||| fields) ∧
    Follows (.ld3dSs zt1 zt2 zt3 pg rn rm) lines (0xA5C0C000 ||| fields)) ∧
  (∀ (zt1 zt2 zt3 zt4 : VReg) (pg : GovPred) (rn rm : XReg),
    let lines : List Check :=
      [⟨decide (pg.idx ≤ 7), .operandRange, pg.idx.setWidth 32⟩,
       ⟨decide (pg.style = Style.zeroing), .operandRange, pg.style.setWidth 32⟩,
       ⟨decide (zt2.toNat = (zt1.toNat + 1) % 32 ∧ zt3.toNat = (zt1.toNat + 2) % 32 ∧ zt4.toNat = (zt1.toNat + 3) % 32), .aliasing, zt1.setWidth 32⟩]
    let fields : Word :=
      place rm 16 ||| place (pg.idx.setWidth 3) 10 ||| place rn 5 ||| place zt1 0
    Follows (.ld4bSs zt1 zt2 zt3 zt4 pg rn rm) lines (0xA460C000 ||| fields) ∧
    Follows (.ld4hSs zt1 zt2 zt3 zt4 pg rn rm) lines (0xA4E0C000 ||| fields) ∧
    Follows (.ld4wSs zt1 zt2 zt3 zt4 pg rn rm) lines (0xA560C000 ||| fields) ∧
    Follows (.ld4dSs zt1 zt2 zt3 zt4 pg rn rm) lines (0xA5E0C000 ||| fields))

/-- Structure loads, scalar base plus immediate of spec/46_loadstore_structured_ld.md (R344, R346, R348,
R350, R352, R354, R356, R358, R360, R362, R364, R366): under the default format table each request
appends the word its rule writes out, and under any it raises the cause of the first `require` line that
fails, in every form and for every operand. -/
def Obligations.StructureLoadsImmediateFollowTheirRules : Prop :=
  (∀ (zt1 zt2 : VReg) (pg : GovPred) (rn : XReg) (imm : ReqInt),
    let lines : List Check :=
      [⟨decide (pg.idx ≤ 7), .operandRange, pg.idx.setWidth 32⟩,
       ⟨decide (pg.style = Style.zeroing), .operandRange, pg.style.setWidth 32⟩,
       ⟨decide (-16 ≤ imm.toInt ∧ imm.toInt ≤ 14), .immediateRange, imm⟩,
       ⟨decide (zt2.toNat = (zt1.toNat + 1) % 32), .aliasing, zt1.setWidth 32⟩,
       ⟨decide (imm.toInt % 2 = 0), .immediateRange, imm⟩]
    let fields : Word :=
      place (BitVec.ofInt 4 (imm.toInt / 2)) 16 ||| place (pg.idx.setWidth 3) 10 ||| place rn 5
      ||| place zt1 0
    Follows (.ld2bSi zt1 zt2 pg rn imm) lines (0xA420E000 ||| fields) ∧
    Follows (.ld2hSi zt1 zt2 pg rn imm) lines (0xA4A0E000 ||| fields) ∧
    Follows (.ld2wSi zt1 zt2 pg rn imm) lines (0xA520E000 ||| fields) ∧
    Follows (.ld2dSi zt1 zt2 pg rn imm) lines (0xA5A0E000 ||| fields)) ∧
  (∀ (zt1 zt2 zt3 : VReg) (pg : GovPred) (rn : XReg) (imm : ReqInt),
    let lines : List Check :=
      [⟨decide (pg.idx ≤ 7), .operandRange, pg.idx.setWidth 32⟩,
       ⟨decide (pg.style = Style.zeroing), .operandRange, pg.style.setWidth 32⟩,
       ⟨decide (-24 ≤ imm.toInt ∧ imm.toInt ≤ 21), .immediateRange, imm⟩,
       ⟨decide (zt2.toNat = (zt1.toNat + 1) % 32 ∧ zt3.toNat = (zt1.toNat + 2) % 32), .aliasing, zt1.setWidth 32⟩,
       ⟨decide (imm.toInt % 3 = 0), .immediateRange, imm⟩]
    let fields : Word :=
      place (BitVec.ofInt 4 (imm.toInt / 3)) 16 ||| place (pg.idx.setWidth 3) 10 ||| place rn 5
      ||| place zt1 0
    Follows (.ld3bSi zt1 zt2 zt3 pg rn imm) lines (0xA440E000 ||| fields) ∧
    Follows (.ld3hSi zt1 zt2 zt3 pg rn imm) lines (0xA4C0E000 ||| fields) ∧
    Follows (.ld3wSi zt1 zt2 zt3 pg rn imm) lines (0xA540E000 ||| fields) ∧
    Follows (.ld3dSi zt1 zt2 zt3 pg rn imm) lines (0xA5C0E000 ||| fields)) ∧
  (∀ (zt1 zt2 zt3 zt4 : VReg) (pg : GovPred) (rn : XReg) (imm : ReqInt),
    let lines : List Check :=
      [⟨decide (pg.idx ≤ 7), .operandRange, pg.idx.setWidth 32⟩,
       ⟨decide (pg.style = Style.zeroing), .operandRange, pg.style.setWidth 32⟩,
       ⟨decide (-32 ≤ imm.toInt ∧ imm.toInt ≤ 28), .immediateRange, imm⟩,
       ⟨decide (zt2.toNat = (zt1.toNat + 1) % 32 ∧ zt3.toNat = (zt1.toNat + 2) % 32 ∧ zt4.toNat = (zt1.toNat + 3) % 32), .aliasing, zt1.setWidth 32⟩,
       ⟨decide (imm.toInt % 4 = 0), .immediateRange, imm⟩]
    let fields : Word :=
      place (BitVec.ofInt 4 (imm.toInt / 4)) 16 ||| place (pg.idx.setWidth 3) 10 ||| place rn 5
      ||| place zt1 0
    Follows (.ld4bSi zt1 zt2 zt3 zt4 pg rn imm) lines (0xA460E000 ||| fields) ∧
    Follows (.ld4hSi zt1 zt2 zt3 zt4 pg rn imm) lines (0xA4E0E000 ||| fields) ∧
    Follows (.ld4wSi zt1 zt2 zt3 zt4 pg rn imm) lines (0xA560E000 ||| fields) ∧
    Follows (.ld4dSi zt1 zt2 zt3 zt4 pg rn imm) lines (0xA5E0E000 ||| fields))

/-- Structure stores, scalar base plus scalar index of spec/46_loadstore_structured_st.md (R368, R370, R372,
R374, R376, R378, R380, R382, R384, R386, R388, R390): under the default format table each request
appends the word its rule writes out, and under any it raises the cause of the first `require` line that
fails, in every form and for every operand. -/
def Obligations.StructureStoresScalarIndexFollowTheirRules : Prop :=
  (∀ (zt1 zt2 : VReg) (pg : GovPred) (rn rm : XReg),
    let lines : List Check :=
      [⟨decide (pg.idx ≤ 7), .operandRange, pg.idx.setWidth 32⟩,
       ⟨decide (pg.style = Style.plain), .operandRange, pg.style.setWidth 32⟩,
       ⟨decide (zt2.toNat = (zt1.toNat + 1) % 32), .aliasing, zt1.setWidth 32⟩]
    let fields : Word :=
      place rm 16 ||| place (pg.idx.setWidth 3) 10 ||| place rn 5 ||| place zt1 0
    Follows (.st2bSs zt1 zt2 pg rn rm) lines (0xE4206000 ||| fields) ∧
    Follows (.st2hSs zt1 zt2 pg rn rm) lines (0xE4A06000 ||| fields) ∧
    Follows (.st2wSs zt1 zt2 pg rn rm) lines (0xE5206000 ||| fields) ∧
    Follows (.st2dSs zt1 zt2 pg rn rm) lines (0xE5A06000 ||| fields)) ∧
  (∀ (zt1 zt2 zt3 : VReg) (pg : GovPred) (rn rm : XReg),
    let lines : List Check :=
      [⟨decide (pg.idx ≤ 7), .operandRange, pg.idx.setWidth 32⟩,
       ⟨decide (pg.style = Style.plain), .operandRange, pg.style.setWidth 32⟩,
       ⟨decide (zt2.toNat = (zt1.toNat + 1) % 32 ∧ zt3.toNat = (zt1.toNat + 2) % 32), .aliasing, zt1.setWidth 32⟩]
    let fields : Word :=
      place rm 16 ||| place (pg.idx.setWidth 3) 10 ||| place rn 5 ||| place zt1 0
    Follows (.st3bSs zt1 zt2 zt3 pg rn rm) lines (0xE4406000 ||| fields) ∧
    Follows (.st3hSs zt1 zt2 zt3 pg rn rm) lines (0xE4C06000 ||| fields) ∧
    Follows (.st3wSs zt1 zt2 zt3 pg rn rm) lines (0xE5406000 ||| fields) ∧
    Follows (.st3dSs zt1 zt2 zt3 pg rn rm) lines (0xE5C06000 ||| fields)) ∧
  (∀ (zt1 zt2 zt3 zt4 : VReg) (pg : GovPred) (rn rm : XReg),
    let lines : List Check :=
      [⟨decide (pg.idx ≤ 7), .operandRange, pg.idx.setWidth 32⟩,
       ⟨decide (pg.style = Style.plain), .operandRange, pg.style.setWidth 32⟩,
       ⟨decide (zt2.toNat = (zt1.toNat + 1) % 32 ∧ zt3.toNat = (zt1.toNat + 2) % 32 ∧ zt4.toNat = (zt1.toNat + 3) % 32), .aliasing, zt1.setWidth 32⟩]
    let fields : Word :=
      place rm 16 ||| place (pg.idx.setWidth 3) 10 ||| place rn 5 ||| place zt1 0
    Follows (.st4bSs zt1 zt2 zt3 zt4 pg rn rm) lines (0xE4606000 ||| fields) ∧
    Follows (.st4hSs zt1 zt2 zt3 zt4 pg rn rm) lines (0xE4E06000 ||| fields) ∧
    Follows (.st4wSs zt1 zt2 zt3 zt4 pg rn rm) lines (0xE5606000 ||| fields) ∧
    Follows (.st4dSs zt1 zt2 zt3 zt4 pg rn rm) lines (0xE5E06000 ||| fields))

/-- Structure stores, scalar base plus immediate of spec/46_loadstore_structured_st.md (R369, R371, R373,
R375, R377, R379, R381, R383, R385, R387, R389, R391): under the default format table each request
appends the word its rule writes out, and under any it raises the cause of the first `require` line that
fails, in every form and for every operand. -/
def Obligations.StructureStoresImmediateFollowTheirRules : Prop :=
  (∀ (zt1 zt2 : VReg) (pg : GovPred) (rn : XReg) (imm : ReqInt),
    let lines : List Check :=
      [⟨decide (pg.idx ≤ 7), .operandRange, pg.idx.setWidth 32⟩,
       ⟨decide (pg.style = Style.plain), .operandRange, pg.style.setWidth 32⟩,
       ⟨decide (-16 ≤ imm.toInt ∧ imm.toInt ≤ 14), .immediateRange, imm⟩,
       ⟨decide (zt2.toNat = (zt1.toNat + 1) % 32), .aliasing, zt1.setWidth 32⟩,
       ⟨decide (imm.toInt % 2 = 0), .immediateRange, imm⟩]
    let fields : Word :=
      place (BitVec.ofInt 4 (imm.toInt / 2)) 16 ||| place (pg.idx.setWidth 3) 10 ||| place rn 5
      ||| place zt1 0
    Follows (.st2bSi zt1 zt2 pg rn imm) lines (0xE430E000 ||| fields) ∧
    Follows (.st2hSi zt1 zt2 pg rn imm) lines (0xE4B0E000 ||| fields) ∧
    Follows (.st2wSi zt1 zt2 pg rn imm) lines (0xE530E000 ||| fields) ∧
    Follows (.st2dSi zt1 zt2 pg rn imm) lines (0xE5B0E000 ||| fields)) ∧
  (∀ (zt1 zt2 zt3 : VReg) (pg : GovPred) (rn : XReg) (imm : ReqInt),
    let lines : List Check :=
      [⟨decide (pg.idx ≤ 7), .operandRange, pg.idx.setWidth 32⟩,
       ⟨decide (pg.style = Style.plain), .operandRange, pg.style.setWidth 32⟩,
       ⟨decide (-24 ≤ imm.toInt ∧ imm.toInt ≤ 21), .immediateRange, imm⟩,
       ⟨decide (zt2.toNat = (zt1.toNat + 1) % 32 ∧ zt3.toNat = (zt1.toNat + 2) % 32), .aliasing, zt1.setWidth 32⟩,
       ⟨decide (imm.toInt % 3 = 0), .immediateRange, imm⟩]
    let fields : Word :=
      place (BitVec.ofInt 4 (imm.toInt / 3)) 16 ||| place (pg.idx.setWidth 3) 10 ||| place rn 5
      ||| place zt1 0
    Follows (.st3bSi zt1 zt2 zt3 pg rn imm) lines (0xE450E000 ||| fields) ∧
    Follows (.st3hSi zt1 zt2 zt3 pg rn imm) lines (0xE4D0E000 ||| fields) ∧
    Follows (.st3wSi zt1 zt2 zt3 pg rn imm) lines (0xE550E000 ||| fields) ∧
    Follows (.st3dSi zt1 zt2 zt3 pg rn imm) lines (0xE5D0E000 ||| fields)) ∧
  (∀ (zt1 zt2 zt3 zt4 : VReg) (pg : GovPred) (rn : XReg) (imm : ReqInt),
    let lines : List Check :=
      [⟨decide (pg.idx ≤ 7), .operandRange, pg.idx.setWidth 32⟩,
       ⟨decide (pg.style = Style.plain), .operandRange, pg.style.setWidth 32⟩,
       ⟨decide (-32 ≤ imm.toInt ∧ imm.toInt ≤ 28), .immediateRange, imm⟩,
       ⟨decide (zt2.toNat = (zt1.toNat + 1) % 32 ∧ zt3.toNat = (zt1.toNat + 2) % 32 ∧ zt4.toNat = (zt1.toNat + 3) % 32), .aliasing, zt1.setWidth 32⟩,
       ⟨decide (imm.toInt % 4 = 0), .immediateRange, imm⟩]
    let fields : Word :=
      place (BitVec.ofInt 4 (imm.toInt / 4)) 16 ||| place (pg.idx.setWidth 3) 10 ||| place rn 5
      ||| place zt1 0
    Follows (.st4bSi zt1 zt2 zt3 zt4 pg rn imm) lines (0xE470E000 ||| fields) ∧
    Follows (.st4hSi zt1 zt2 zt3 zt4 pg rn imm) lines (0xE4F0E000 ||| fields) ∧
    Follows (.st4wSi zt1 zt2 zt3 zt4 pg rn imm) lines (0xE570E000 ||| fields) ∧
    Follows (.st4dSi zt1 zt2 zt3 zt4 pg rn imm) lines (0xE5F0E000 ||| fields))

/-- Shifts by immediate of spec/47_shift.md (R394, R395, R396, R397, R398, R399, R400, R401, R402, R403,
R404, R405): under the default format table each request appends the word its rule writes out, and under
any it raises the cause of the first `require` line that fails, in every form and for every operand. -/
def Obligations.ShiftByImmediateFollowTheirRules : Prop :=
  (∀ (size : ReqInt) (zd : VReg) (pg : GovPred) (zn : VReg) (shift : ReqInt),
    let lines : List Check :=
      [⟨decide (size ∈ [8, 16, 32, 64]), .elementSize, size⟩,
       ⟨decide (pg.idx ≤ 7), .operandRange, pg.idx.setWidth 32⟩,
       ⟨decide (pg.style = Style.merging), .operandRange, pg.style.setWidth 32⟩,
       ⟨decide (zd = zn), .aliasing, zd.setWidth 32⟩,
       ⟨decide (0 < shift.toInt ∧ shift.toInt ≤ size.toInt), .immediateRange, shift⟩]
    let t := shiftFields size.toInt shift.toInt false
    let fields : Word :=
      place t.high 22 ||| place (pg.idx.setWidth 3) 10 ||| place t.low 8 ||| place t.res 5 ||| place zd 0
    Follows (.asrImmPred size zd pg zn shift) lines (0x04008000 ||| fields) ∧
    Follows (.lsrImmPred size zd pg zn shift) lines (0x04018000 ||| fields)) ∧
  (∀ (size : ReqInt) (zd : VReg) (pg : GovPred) (zn : VReg) (shift : ReqInt),
    let lines : List Check :=
      [⟨decide (size ∈ [8, 16, 32, 64]), .elementSize, size⟩,
       ⟨decide (pg.idx ≤ 7), .operandRange, pg.idx.setWidth 32⟩,
       ⟨decide (pg.style = Style.merging), .operandRange, pg.style.setWidth 32⟩,
       ⟨decide (zd = zn), .aliasing, zd.setWidth 32⟩,
       ⟨decide (0 ≤ shift.toInt ∧ shift.toInt < size.toInt), .immediateRange, shift⟩]
    let t := shiftFields size.toInt shift.toInt true
    Follows (.lslImmPred size zd pg zn shift) lines
      (0x04038000 ||| place t.high 22 ||| place (pg.idx.setWidth 3) 10 ||| place t.low 8 ||| place t.res 5
        ||| place zd 0)) ∧
  (∀ (size : ReqInt) (zd : VReg) (pg : GovPred) (zn : VReg) (shift : ReqInt),
    let lines : List Check :=
      [⟨decide (size ∈ [8, 16, 32, 64]), .elementSize, size⟩,
       ⟨decide (pg.idx ≤ 7), .operandRange, pg.idx.setWidth 32⟩,
       ⟨decide (pg.style = Style.merging), .operandRange, pg.style.setWidth 32⟩,
       ⟨decide (zd = zn), .aliasing, zd.setWidth 32⟩,
       ⟨decide (0 < shift.toInt ∧ shift.toInt ≤ size.toInt), .immediateRange, shift⟩]
    let t := shiftFields size.toInt shift.toInt false
    Follows (.asrdImmPred size zd pg zn shift) lines
      (0x04048000 ||| place t.high 22 ||| place (pg.idx.setWidth 3) 10 ||| place t.low 8 ||| place t.res 5
        ||| place zd 0)) ∧
  (∀ (size : ReqInt) (zd : VReg) (pg : GovPred) (zn : VReg) (shift : ReqInt),
    let lines : List Check :=
      [⟨decide (size ∈ [8, 16, 32, 64]), .elementSize, size⟩,
       ⟨decide (pg.idx ≤ 7), .operandRange, pg.idx.setWidth 32⟩,
       ⟨decide (pg.style = Style.merging), .operandRange, pg.style.setWidth 32⟩,
       ⟨decide (zd = zn), .aliasing, zd.setWidth 32⟩,
       ⟨decide (0 ≤ shift.toInt ∧ shift.toInt < size.toInt), .immediateRange, shift⟩]
    let t := shiftFields size.toInt shift.toInt true
    let fields : Word :=
      place t.high 22 ||| place (pg.idx.setWidth 3) 10 ||| place t.low 8 ||| place t.res 5 ||| place zd 0
    Follows (.sqshlImmPred size zd pg zn shift) lines (0x04068000 ||| fields) ∧
    Follows (.uqshlImmPred size zd pg zn shift) lines (0x04078000 ||| fields)) ∧
  (∀ (size : ReqInt) (zd : VReg) (pg : GovPred) (zn : VReg) (shift : ReqInt),
    let lines : List Check :=
      [⟨decide (size ∈ [8, 16, 32, 64]), .elementSize, size⟩,
       ⟨decide (pg.idx ≤ 7), .operandRange, pg.idx.setWidth 32⟩,
       ⟨decide (pg.style = Style.merging), .operandRange, pg.style.setWidth 32⟩,
       ⟨decide (zd = zn), .aliasing, zd.setWidth 32⟩,
       ⟨decide (0 < shift.toInt ∧ shift.toInt ≤ size.toInt), .immediateRange, shift⟩]
    let t := shiftFields size.toInt shift.toInt false
    let fields : Word :=
      place t.high 22 ||| place (pg.idx.setWidth 3) 10 ||| place t.low 8 ||| place t.res 5 ||| place zd 0
    Follows (.srshrImmPred size zd pg zn shift) lines (0x040C8000 ||| fields) ∧
    Follows (.urshrImmPred size zd pg zn shift) lines (0x040D8000 ||| fields)) ∧
  (∀ (size : ReqInt) (zd : VReg) (pg : GovPred) (zn : VReg) (shift : ReqInt),
    let lines : List Check :=
      [⟨decide (size ∈ [8, 16, 32, 64]), .elementSize, size⟩,
       ⟨decide (pg.idx ≤ 7), .operandRange, pg.idx.setWidth 32⟩,
       ⟨decide (pg.style = Style.merging), .operandRange, pg.style.setWidth 32⟩,
       ⟨decide (zd = zn), .aliasing, zd.setWidth 32⟩,
       ⟨decide (0 ≤ shift.toInt ∧ shift.toInt < size.toInt), .immediateRange, shift⟩]
    let t := shiftFields size.toInt shift.toInt true
    Follows (.sqshluImmPred size zd pg zn shift) lines
      (0x040F8000 ||| place t.high 22 ||| place (pg.idx.setWidth 3) 10 ||| place t.low 8 ||| place t.res 5
        ||| place zd 0)) ∧
  (∀ (size : ReqInt) (zd zn : VReg) (shift : ReqInt),
    let lines : List Check :=
      [⟨decide (size ∈ [8, 16, 32, 64]), .elementSize, size⟩,
       ⟨decide (0 < shift.toInt ∧ shift.toInt ≤ size.toInt), .immediateRange, shift⟩]
    let t := shiftFields size.toInt shift.toInt false
    let fields : Word :=
      place t.high 22 ||| place t.low 19 ||| place t.res 16 ||| place zn 5 ||| place zd 0
    Follows (.asrImmUnpred size zd zn shift) lines (0x04209000 ||| fields) ∧
    Follows (.lsrImmUnpred size zd zn shift) lines (0x04209400 ||| fields)) ∧
  (∀ (size : ReqInt) (zd zn : VReg) (shift : ReqInt),
    let lines : List Check :=
      [⟨decide (size ∈ [8, 16, 32, 64]), .elementSize, size⟩,
       ⟨decide (0 ≤ shift.toInt ∧ shift.toInt < size.toInt), .immediateRange, shift⟩]
    let t := shiftFields size.toInt shift.toInt true
    Follows (.lslImmUnpred size zd zn shift) lines
      (0x04209C00 ||| place t.high 22 ||| place t.low 19 ||| place t.res 16 ||| place zn 5 ||| place zd 0))

/-- Shifts by vector of spec/47_shift.md (R406, R407, R408, R409, R410, R411): under the default format
table each request appends the word its rule writes out, and under any it raises the cause of the first
`require` line that fails, in every form and for every operand. -/
def Obligations.ShiftByVectorFollowTheirRules : Prop :=
  (∀ (size : ReqInt) (zd : VReg) (pg : GovPred) (zn zm : VReg),
    let lines : List Check :=
      [⟨decide (size ∈ [8, 16, 32, 64]), .elementSize, size⟩,
       ⟨decide (pg.idx ≤ 7), .operandRange, pg.idx.setWidth 32⟩,
       ⟨decide (pg.style = Style.merging), .operandRange, pg.style.setWidth 32⟩,
       ⟨decide (zd = zn), .aliasing, zd.setWidth 32⟩]
    let fields : Word :=
      place (sizeField size) 22 ||| place (pg.idx.setWidth 3) 10 ||| place zm 5 ||| place zd 0
    Follows (.asrVecPred size zd pg zn zm) lines (0x04108000 ||| fields) ∧
    Follows (.lsrVecPred size zd pg zn zm) lines (0x04118000 ||| fields) ∧
    Follows (.lslVecPred size zd pg zn zm) lines (0x04138000 ||| fields) ∧
    Follows (.asrrVecPred size zd pg zn zm) lines (0x04148000 ||| fields) ∧
    Follows (.lsrrVecPred size zd pg zn zm) lines (0x04158000 ||| fields) ∧
    Follows (.lslrVecPred size zd pg zn zm) lines (0x04178000 ||| fields))

/-- Shifts by wide elements of spec/47_shift.md (R412, R413, R414, R415, R416, R417): under the default
format table each request appends the word its rule writes out, and under any it raises the cause of the
first `require` line that fails, in every form and for every operand. -/
def Obligations.ShiftByWideElementsFollowTheirRules : Prop :=
  (∀ (size : ReqInt) (zd : VReg) (pg : GovPred) (zn zm : VReg),
    let lines : List Check :=
      [⟨decide (size ∈ [8, 16, 32]), .elementSize, size⟩,
       ⟨decide (pg.idx ≤ 7), .operandRange, pg.idx.setWidth 32⟩,
       ⟨decide (pg.style = Style.merging), .operandRange, pg.style.setWidth 32⟩,
       ⟨decide (zd = zn), .aliasing, zd.setWidth 32⟩]
    let fields : Word :=
      place (sizeField size) 22 ||| place (pg.idx.setWidth 3) 10 ||| place zm 5 ||| place zd 0
    Follows (.asrWidePred size zd pg zn zm) lines (0x04188000 ||| fields) ∧
    Follows (.lsrWidePred size zd pg zn zm) lines (0x04198000 ||| fields) ∧
    Follows (.lslWidePred size zd pg zn zm) lines (0x041B8000 ||| fields)) ∧
  (∀ (size : ReqInt) (zd zn zm : VReg),
    let lines : List Check :=
      [⟨decide (size ∈ [8, 16, 32]), .elementSize, size⟩]
    let fields : Word :=
      place (sizeField size) 22 ||| place zm 16 ||| place zn 5 ||| place zd 0
    Follows (.asrWideUnpred size zd zn zm) lines (0x04208000 ||| fields) ∧
    Follows (.lsrWideUnpred size zd zn zm) lines (0x04208400 ||| fields) ∧
    Follows (.lslWideUnpred size zd zn zm) lines (0x04208C00 ||| fields))

/-- Widening add, subtract and absolute difference of spec/48_widen_narrow.md (R420, R421, R422, R423, R424,
R425, R426, R427, R428, R429, R430, R431): under the default format table each request appends the word
its rule writes out, and under any it raises the cause of the first `require` line that fails, in every
form and for every operand. -/
def Obligations.WideningFollowTheirRules : Prop :=
  (∀ (size : ReqInt) (zd zn zm : VReg),
    let lines : List Check :=
      [⟨decide (size ∈ [16, 32, 64]), .elementSize, size⟩]
    let fields : Word :=
      place (sizeField size) 22 ||| place zm 16 ||| place zn 5 ||| place zd 0
    Follows (.saddlb size zd zn zm) lines (0x45000000 ||| fields) ∧
    Follows (.saddlt size zd zn zm) lines (0x45000400 ||| fields) ∧
    Follows (.uaddlb size zd zn zm) lines (0x45000800 ||| fields) ∧
    Follows (.uaddlt size zd zn zm) lines (0x45000C00 ||| fields) ∧
    Follows (.ssublb size zd zn zm) lines (0x45001000 ||| fields) ∧
    Follows (.ssublt size zd zn zm) lines (0x45001400 ||| fields) ∧
    Follows (.usublb size zd zn zm) lines (0x45001800 ||| fields) ∧
    Follows (.usublt size zd zn zm) lines (0x45001C00 ||| fields) ∧
    Follows (.sabdlb size zd zn zm) lines (0x45003000 ||| fields) ∧
    Follows (.sabdlt size zd zn zm) lines (0x45003400 ||| fields) ∧
    Follows (.uabdlb size zd zn zm) lines (0x45003800 ||| fields) ∧
    Follows (.uabdlt size zd zn zm) lines (0x45003C00 ||| fields))

/-- Shift left long and narrow high part of spec/48_widen_narrow.md (R432, R433, R434, R435, R436, R437,
R438, R439, R440, R441, R442, R443): under the default format table each request appends the word its
rule writes out, and under any it raises the cause of the first `require` line that fails, in every form
and for every operand. -/
def Obligations.ShiftLeftLongAndNarrowHighFollowTheirRules : Prop :=
  (∀ (size : ReqInt) (zd zn : VReg) (shift : ReqInt),
    let lines : List Check :=
      [⟨decide (size ∈ [16, 32, 64]), .elementSize, size⟩,
       ⟨decide (0 ≤ shift.toInt ∧ shift.toInt < size.toInt / 2), .immediateRange, shift⟩]
    let t := shiftFields (size.toInt / 2) shift.toInt true
    let fields : Word :=
      place (t.high.setWidth 1) 22 ||| place t.low 19 ||| place t.res 16 ||| place zn 5 ||| place zd 0
    Follows (.sshllb size zd zn shift) lines (0x4500A000 ||| fields) ∧
    Follows (.sshllt size zd zn shift) lines (0x4500A400 ||| fields) ∧
    Follows (.ushllb size zd zn shift) lines (0x4500A800 ||| fields) ∧
    Follows (.ushllt size zd zn shift) lines (0x4500AC00 ||| fields)) ∧
  (∀ (size : ReqInt) (zd zn zm : VReg),
    let lines : List Check :=
      [⟨decide (size ∈ [8, 16, 32]), .elementSize, size⟩]
    let fields : Word :=
      place (sizeField size + 1) 22 ||| place zm 16 ||| place zn 5 ||| place zd 0
    Follows (.addhnb size zd zn zm) lines (0x45206000 ||| fields) ∧
    Follows (.addhnt size zd zn zm) lines (0x45206400 ||| fields) ∧
    Follows (.raddhnb size zd zn zm) lines (0x45206800 ||| fields) ∧
    Follows (.raddhnt size zd zn zm) lines (0x45206C00 ||| fields) ∧
    Follows (.subhnb size zd zn zm) lines (0x45207000 ||| fields) ∧
    Follows (.subhnt size zd zn zm) lines (0x45207400 ||| fields) ∧
    Follows (.rsubhnb size zd zn zm) lines (0x45207800 ||| fields) ∧
    Follows (.rsubhnt size zd zn zm) lines (0x45207C00 ||| fields))

/-- Shift right narrow, first part of spec/48_widen_narrow.md (R444, R445, R446, R447, R448, R449, R450,
R451): under the default format table each request appends the word its rule writes out, and under any
it raises the cause of the first `require` line that fails, in every form and for every operand. -/
def Obligations.ShiftRightNarrowFollowTheirRules : Prop :=
  (∀ (size : ReqInt) (zd zn : VReg) (shift : ReqInt),
    let lines : List Check :=
      [⟨decide (size ∈ [8, 16, 32]), .elementSize, size⟩,
       ⟨decide (0 < shift.toInt ∧ shift.toInt ≤ size.toInt), .immediateRange, shift⟩]
    let t := shiftFields size.toInt shift.toInt false
    let fields : Word :=
      place (t.high.setWidth 1) 22 ||| place t.low 19 ||| place t.res 16 ||| place zn 5 ||| place zd 0
    Follows (.sqshrunb size zd zn shift) lines (0x45200000 ||| fields) ∧
    Follows (.sqshrunt size zd zn shift) lines (0x45200400 ||| fields) ∧
    Follows (.sqrshrunb size zd zn shift) lines (0x45200800 ||| fields) ∧
    Follows (.sqrshrunt size zd zn shift) lines (0x45200C00 ||| fields) ∧
    Follows (.shrnb size zd zn shift) lines (0x45201000 ||| fields) ∧
    Follows (.shrnt size zd zn shift) lines (0x45201400 ||| fields) ∧
    Follows (.rshrnb size zd zn shift) lines (0x45201800 ||| fields) ∧
    Follows (.rshrnt size zd zn shift) lines (0x45201C00 ||| fields))

/-- Shift right narrow, second part of spec/48_widen_narrow.md (R452, R453, R454, R455, R456, R457, R458,
R459): under the default format table each request appends the word its rule writes out, and under any
it raises the cause of the first `require` line that fails, in every form and for every operand. -/
def Obligations.ShiftRightNarrowRestFollowTheirRules : Prop :=
  (∀ (size : ReqInt) (zd zn : VReg) (shift : ReqInt),
    let lines : List Check :=
      [⟨decide (size ∈ [8, 16, 32]), .elementSize, size⟩,
       ⟨decide (0 < shift.toInt ∧ shift.toInt ≤ size.toInt), .immediateRange, shift⟩]
    let t := shiftFields size.toInt shift.toInt false
    let fields : Word :=
      place (t.high.setWidth 1) 22 ||| place t.low 19 ||| place t.res 16 ||| place zn 5 ||| place zd 0
    Follows (.sqshrnb size zd zn shift) lines (0x45202000 ||| fields) ∧
    Follows (.sqshrnt size zd zn shift) lines (0x45202400 ||| fields) ∧
    Follows (.sqrshrnb size zd zn shift) lines (0x45202800 ||| fields) ∧
    Follows (.sqrshrnt size zd zn shift) lines (0x45202C00 ||| fields) ∧
    Follows (.uqshrnb size zd zn shift) lines (0x45203000 ||| fields) ∧
    Follows (.uqshrnt size zd zn shift) lines (0x45203400 ||| fields) ∧
    Follows (.uqrshrnb size zd zn shift) lines (0x45203800 ||| fields) ∧
    Follows (.uqrshrnt size zd zn shift) lines (0x45203C00 ||| fields))

/-- Shift right and accumulate, shift and insert of spec/48_widen_narrow.md (R460, R461, R462, R463, R464,
R465): under the default format table each request appends the word its rule writes out, and under any
it raises the cause of the first `require` line that fails, in every form and for every operand. -/
def Obligations.ShiftAccumulateAndInsertFollowTheirRules : Prop :=
  (∀ (size : ReqInt) (zda zn : VReg) (shift : ReqInt),
    let lines : List Check :=
      [⟨decide (size ∈ [8, 16, 32, 64]), .elementSize, size⟩,
       ⟨decide (0 < shift.toInt ∧ shift.toInt ≤ size.toInt), .immediateRange, shift⟩]
    let t := shiftFields size.toInt shift.toInt false
    let fields : Word :=
      place t.high 22 ||| place t.low 19 ||| place t.res 16 ||| place zn 5 ||| place zda 0
    Follows (.ssra size zda zn shift) lines (0x4500E000 ||| fields) ∧
    Follows (.usra size zda zn shift) lines (0x4500E400 ||| fields) ∧
    Follows (.srsra size zda zn shift) lines (0x4500E800 ||| fields) ∧
    Follows (.ursra size zda zn shift) lines (0x4500EC00 ||| fields)) ∧
  (∀ (size : ReqInt) (zd zn : VReg) (shift : ReqInt),
    let lines : List Check :=
      [⟨decide (size ∈ [8, 16, 32, 64]), .elementSize, size⟩,
       ⟨decide (0 < shift.toInt ∧ shift.toInt ≤ size.toInt), .immediateRange, shift⟩]
    let t := shiftFields size.toInt shift.toInt false
    Follows (.sri size zd zn shift) lines
      (0x4500F000 ||| place t.high 22 ||| place t.low 19 ||| place t.res 16 ||| place zn 5 ||| place zd 0)) ∧
  (∀ (size : ReqInt) (zd zn : VReg) (shift : ReqInt),
    let lines : List Check :=
      [⟨decide (size ∈ [8, 16, 32, 64]), .elementSize, size⟩,
       ⟨decide (0 ≤ shift.toInt ∧ shift.toInt < size.toInt), .immediateRange, shift⟩]
    let t := shiftFields size.toInt shift.toInt true
    Follows (.sli size zd zn shift) lines
      (0x4500F400 ||| place t.high 22 ||| place t.low 19 ||| place t.res 16 ||| place zn 5 ||| place zd 0))

/-- Unpredicated floating-point arithmetic of spec/49_fp_index_stack_misc.md (R468, R469, R470, R471, R472,
R473): under the default format table each request appends the word its rule writes out, and under any
it raises the cause of the first `require` line that fails, in every form and for every operand. -/
def Obligations.FloatUnpredicatedFollowTheirRules : Prop :=
  (∀ (size : ReqInt) (zd zn zm : VReg),
    let lines : List Check :=
      [⟨decide (size ∈ [16, 32, 64]), .elementSize, size⟩]
    let fields : Word :=
      place (sizeField size) 22 ||| place zm 16 ||| place zn 5 ||| place zd 0
    Follows (.faddUnpred size zd zn zm) lines (0x65000000 ||| fields) ∧
    Follows (.fsubUnpred size zd zn zm) lines (0x65000400 ||| fields) ∧
    Follows (.fmulUnpred size zd zn zm) lines (0x65000800 ||| fields) ∧
    Follows (.ftsmulUnpred size zd zn zm) lines (0x65000C00 ||| fields) ∧
    Follows (.frecpsUnpred size zd zn zm) lines (0x65001800 ||| fields) ∧
    Follows (.frsqrtsUnpred size zd zn zm) lines (0x65001C00 ||| fields))

/-- Predicated floating-point arithmetic, first part of spec/49_fp_index_stack_misc.md (R474, R475, R476,
R477, R478, R479, R480): under the default format table each request appends the word its rule writes
out, and under any it raises the cause of the first `require` line that fails, in every form and for
every operand. -/
def Obligations.FloatPredicatedFollowTheirRules : Prop :=
  (∀ (size : ReqInt) (zd : VReg) (pg : GovPred) (zn zm : VReg),
    let lines : List Check :=
      [⟨decide (size ∈ [16, 32, 64]), .elementSize, size⟩,
       ⟨decide (pg.idx ≤ 7), .operandRange, pg.idx.setWidth 32⟩,
       ⟨decide (pg.style = Style.merging), .operandRange, pg.style.setWidth 32⟩,
       ⟨decide (zd = zn), .aliasing, zd.setWidth 32⟩]
    let fields : Word :=
      place (sizeField size) 22 ||| place (pg.idx.setWidth 3) 10 ||| place zm 5 ||| place zd 0
    Follows (.faddPred size zd pg zn zm) lines (0x65008000 ||| fields) ∧
    Follows (.fsubPred size zd pg zn zm) lines (0x65018000 ||| fields) ∧
    Follows (.fmulPred size zd pg zn zm) lines (0x65028000 ||| fields) ∧
    Follows (.fsubrPred size zd pg zn zm) lines (0x65038000 ||| fields) ∧
    Follows (.fmaxnmPred size zd pg zn zm) lines (0x65048000 ||| fields) ∧
    Follows (.fminnmPred size zd pg zn zm) lines (0x65058000 ||| fields) ∧
    Follows (.fmaxPred size zd pg zn zm) lines (0x65068000 ||| fields))

/-- Predicated floating-point arithmetic, second part of spec/49_fp_index_stack_misc.md (R481, R482, R483,
R484, R485, R486): under the default format table each request appends the word its rule writes out, and
under any it raises the cause of the first `require` line that fails, in every form and for every
operand. -/
def Obligations.FloatPredicatedRestFollowTheirRules : Prop :=
  (∀ (size : ReqInt) (zd : VReg) (pg : GovPred) (zn zm : VReg),
    let lines : List Check :=
      [⟨decide (size ∈ [16, 32, 64]), .elementSize, size⟩,
       ⟨decide (pg.idx ≤ 7), .operandRange, pg.idx.setWidth 32⟩,
       ⟨decide (pg.style = Style.merging), .operandRange, pg.style.setWidth 32⟩,
       ⟨decide (zd = zn), .aliasing, zd.setWidth 32⟩]
    let fields : Word :=
      place (sizeField size) 22 ||| place (pg.idx.setWidth 3) 10 ||| place zm 5 ||| place zd 0
    Follows (.fminPred size zd pg zn zm) lines (0x65078000 ||| fields) ∧
    Follows (.fabdPred size zd pg zn zm) lines (0x65088000 ||| fields) ∧
    Follows (.fscalePred size zd pg zn zm) lines (0x65098000 ||| fields) ∧
    Follows (.fmulxPred size zd pg zn zm) lines (0x650A8000 ||| fields) ∧
    Follows (.fdivrPred size zd pg zn zm) lines (0x650C8000 ||| fields) ∧
    Follows (.fdivPred size zd pg zn zm) lines (0x650D8000 ||| fields))

/-- Floating-point compares, convert and complex operations of spec/49_fp_index_stack_misc.md (R487, R488,
R489, R490, R491, R492, R493, R494, R495, R496): under the default format table each request appends the
word its rule writes out, and under any it raises the cause of the first `require` line that fails, in
every form and for every operand. -/
def Obligations.FloatCompareConvertComplexFollowTheirRules : Prop :=
  (∀ (size : ReqInt) (pd : PReg) (pg : GovPred) (zn zm : VReg),
    let lines : List Check :=
      [⟨decide (size ∈ [16, 32, 64]), .elementSize, size⟩,
       ⟨decide (pg.idx ≤ 7), .operandRange, pg.idx.setWidth 32⟩,
       ⟨decide (pg.style = Style.zeroing), .operandRange, pg.style.setWidth 32⟩]
    let fields : Word :=
      place (sizeField size) 22 ||| place zm 16 ||| place (pg.idx.setWidth 3) 10 ||| place zn 5
      ||| place pd 0
    Follows (.fcmgeVec size pd pg zn zm) lines (0x65004000 ||| fields) ∧
    Follows (.fcmgtVec size pd pg zn zm) lines (0x65004010 ||| fields) ∧
    Follows (.fcmeqVec size pd pg zn zm) lines (0x65006000 ||| fields) ∧
    Follows (.fcmneVec size pd pg zn zm) lines (0x65006010 ||| fields) ∧
    Follows (.fcmuoVec size pd pg zn zm) lines (0x6500C000 ||| fields) ∧
    Follows (.facgeVec size pd pg zn zm) lines (0x6500C010 ||| fields) ∧
    Follows (.facgtVec size pd pg zn zm) lines (0x6500E010 ||| fields)) ∧
  (∀ (dsize ssize : ReqInt) (zd : VReg) (pg : GovPred) (zn : VReg),
    let lines : List Check :=
      [⟨decide (dsize ∈ [16, 32, 64]), .elementSize, dsize⟩,
       ⟨decide (ssize ∈ [16, 32, 64]), .elementSize, ssize⟩,
       ⟨decide (pg.idx ≤ 7), .operandRange, pg.idx.setWidth 32⟩,
       ⟨decide (pg.style = Style.merging), .operandRange, pg.style.setWidth 32⟩,
       ⟨decide (dsize ≠ ssize), .elementSize, dsize⟩]
    Follows (.fcvt dsize ssize zd pg zn) lines
      (0x6508A000 ||| place (fcvtCode dsize ssize).1 22 ||| place (fcvtCode dsize ssize).2 16
        ||| place (pg.idx.setWidth 3) 10 ||| place zn 5 ||| place zd 0)) ∧
  (∀ (size : ReqInt) (zd : VReg) (pg : GovPred) (zn zm : VReg) (rot : ReqInt),
    let lines : List Check :=
      [⟨decide (size ∈ [16, 32, 64]), .elementSize, size⟩,
       ⟨decide (pg.idx ≤ 7), .operandRange, pg.idx.setWidth 32⟩,
       ⟨decide (pg.style = Style.merging), .operandRange, pg.style.setWidth 32⟩,
       ⟨decide (rot ∈ [90, 270]), .immediateRange, rot⟩, ⟨decide (zd = zn), .aliasing, zd.setWidth 32⟩]
    Follows (.fcadd size zd pg zn zm rot) lines
      (0x64008000 ||| place (sizeField size) 22 ||| place (BitVec.ofBool (rot == 270)) 16
        ||| place (pg.idx.setWidth 3) 10 ||| place zm 5 ||| place zd 0)) ∧
  (∀ (size : ReqInt) (zda : VReg) (pg : GovPred) (zn zm : VReg) (rot : ReqInt),
    let lines : List Check :=
      [⟨decide (size ∈ [16, 32, 64]), .elementSize, size⟩,
       ⟨decide (pg.idx ≤ 7), .operandRange, pg.idx.setWidth 32⟩,
       ⟨decide (pg.style = Style.merging), .operandRange, pg.style.setWidth 32⟩,
       ⟨decide (rot ∈ [0, 90, 180, 270]), .immediateRange, rot⟩]
    Follows (.fcmla size zda pg zn zm rot) lines
      (0x64000000 ||| place (sizeField size) 22 ||| place zm 16 ||| place ((rot / 90).setWidth 2) 13
        ||| place (pg.idx.setWidth 3) 10 ||| place zn 5 ||| place zda 0))

/-- Index generation, stack frame, miscellaneous operations and move prefixes of
spec/49_fp_index_stack_misc.md (R497, R498, R499, R500, R501, R502, R503, R504, R505, R506, R507): under
the default format table each request appends the word its rule writes out, and under any it raises the
cause of the first `require` line that fails, in every form and for every operand. -/
def Obligations.IndexStackMiscellaneousFollowTheirRules : Prop :=
  (∀ (size : ReqInt) (zd : VReg) (start step : ReqInt),
    let lines : List Check :=
      [⟨decide (size ∈ [8, 16, 32, 64]), .elementSize, size⟩,
       ⟨decide (-16 ≤ start.toInt ∧ start.toInt ≤ 15), .immediateRange, start⟩,
       ⟨decide (-16 ≤ step.toInt ∧ step.toInt ≤ 15), .immediateRange, step⟩]
    Follows (.indexIi size zd start step) lines
      (0x04204000 ||| place (sizeField size) 22 ||| place (BitVec.ofInt 5 step.toInt) 16
        ||| place (BitVec.ofInt 5 start.toInt) 5 ||| place zd 0)) ∧
  (∀ (size : ReqInt) (zd : VReg) (rn : XReg) (step : ReqInt),
    let lines : List Check :=
      [⟨decide (size ∈ [8, 16, 32, 64]), .elementSize, size⟩,
       ⟨decide (-16 ≤ step.toInt ∧ step.toInt ≤ 15), .immediateRange, step⟩]
    Follows (.indexRi size zd rn step) lines
      (0x04204400 ||| place (sizeField size) 22 ||| place (BitVec.ofInt 5 step.toInt) 16 ||| place rn 5
        ||| place zd 0)) ∧
  (∀ (size : ReqInt) (zd : VReg) (start : ReqInt) (rm : XReg),
    let lines : List Check :=
      [⟨decide (size ∈ [8, 16, 32, 64]), .elementSize, size⟩,
       ⟨decide (-16 ≤ start.toInt ∧ start.toInt ≤ 15), .immediateRange, start⟩]
    Follows (.indexIr size zd start rm) lines
      (0x04204800 ||| place (sizeField size) 22 ||| place rm 16 ||| place (BitVec.ofInt 5 start.toInt) 5
        ||| place zd 0)) ∧
  (∀ (size : ReqInt) (zd : VReg) (rn rm : XReg),
    let lines : List Check :=
      [⟨decide (size ∈ [8, 16, 32, 64]), .elementSize, size⟩]
    Follows (.indexRr size zd rn rm) lines
      (0x04204C00 ||| place (sizeField size) 22 ||| place rm 16 ||| place rn 5 ||| place zd 0)) ∧
  (∀ (rd rn : XReg) (imm : ReqInt),
    let lines : List Check :=
      [⟨decide (-32 ≤ imm.toInt ∧ imm.toInt ≤ 31), .immediateRange, imm⟩]
    let fields : Word :=
      place rn 16 ||| place (BitVec.ofInt 6 imm.toInt) 5 ||| place rd 0
    Follows (.addvl rd rn imm) lines (0x04205000 ||| fields) ∧
    Follows (.addpl rd rn imm) lines (0x04605000 ||| fields)) ∧
  (∀ (rd : XReg) (imm : ReqInt),
    let lines : List Check :=
      [⟨decide (-32 ≤ imm.toInt ∧ imm.toInt ≤ 31), .immediateRange, imm⟩]
    Follows (.rdvl rd imm) lines (0x04BF5000 ||| place (BitVec.ofInt 6 imm.toInt) 5 ||| place rd 0)) ∧
  (∀ (size : ReqInt) (zd zn zm : VReg),
    let lines : List Check :=
      [⟨decide (size ∈ [16, 32, 64]), .elementSize, size⟩]
    Follows (.ftssel size zd zn zm) lines
      (0x0420B000 ||| place (sizeField size) 22 ||| place zm 16 ||| place zn 5 ||| place zd 0)) ∧
  (∀ (size : ReqInt) (zd zn : VReg),
    let lines : List Check :=
      [⟨decide (size ∈ [16, 32, 64]), .elementSize, size⟩]
    Follows (.fexpa size zd zn) lines
      (0x0420B800 ||| place (sizeField size) 22 ||| place zn 5 ||| place zd 0)) ∧
  (∀ (zd zn : VReg),
    let lines : List Check := []
    Follows (.movprfxUnpred zd zn) lines (0x0420BC00 ||| place zn 5 ||| place zd 0)) ∧
  (∀ (size : ReqInt) (zd : VReg) (pg : GovPred) (zn : VReg),
    let lines : List Check :=
      [⟨decide (size ∈ [8, 16, 32, 64]), .elementSize, size⟩,
       ⟨decide (pg.idx ≤ 7), .operandRange, pg.idx.setWidth 32⟩,
       ⟨decide (pg.style ∈ [Style.merging, Style.zeroing]), .operandRange, pg.style.setWidth 32⟩]
    Follows (.movprfxPred size zd pg zn) lines
      (0x04102000 ||| place (sizeField size) 22 ||| place (BitVec.ofBool (pg.style == Style.merging)) 16
        ||| place (pg.idx.setWidth 3) 10 ||| place zn 5 ||| place zd 0))

/-- The packer's construction (R164) under any format table (the parameter of R6, U14), and R165, which the
spec derives: with the latch clear, the word a legal request appends is what its packer of the run's table
builds from the values the table gives its fields; under the default table every value fits its field; and
where the packer is well formed and the values fit, every field of the word holds its value. -/
def Obligations.EveryLegalRequestPacksItsTableEntryAndEveryValueFits : Prop :=
  ∀ (i : Instr) (s : State), s.halted = false → i.wellFormed = true →
    exec i s = .next (s.append ((s.packerOf i).pack (s.fieldValue i))) ∧
    (s.formatTable = FormatTable.default →
      ∀ x ∈ (s.packerOf i).fields, s.fieldValue i x.name < 2 ^ x.width) ∧
    ((s.packerOf i).wellFormed = true →
      (∀ x ∈ (s.packerOf i).fields, s.fieldValue i x.name < 2 ^ x.width) →
      ∀ x ∈ (s.packerOf i).fields,
        (((s.packerOf i).pack (s.fieldValue i)).extractLsb' x.low x.width).toNat = s.fieldValue i x.name)
end

