-- ==== Sys2Proof/Laws/Formats.lean ====
section
/-! SUPPORT. What packing does, field by field, and what the default table and a departure from it give. -/

namespace Sys2Proof.Machine

/-- With no field left the skeleton is the word. -/
@[simp] theorem Format.pack_nil (k : Word) (v : FieldName → Nat) : (Format.mk k []).pack v = k := rfl

/-- A field is ORed in at its place, and the rest is packed over it (R164). -/
@[simp] theorem Format.pack_cons (k : Word) (f : Field) (fs : List Field) (v : FieldName → Nat) :
    (Format.mk k (f :: fs)).pack v =
      (Format.mk (k ||| (BitVec.ofNat 32 (v f.name) <<< f.low)) fs).pack v := rfl

/-- A constant and an expression place their number. -/
@[simp] theorem FieldValue.num_const (n : Nat) : (FieldValue.const n).num = n := rfl
@[simp] theorem FieldValue.num_expr (n : Nat) : (FieldValue.expr n).num = n := rfl

/-- The value of the field given first. -/
theorem Placement.value_cons_self (n : FormatName) (f : FieldName) (v : FieldValue)
    (vs : List (FieldName × FieldValue)) : (Placement.mk n ((f, v) :: vs)).value f = v.num := by
  simp [Placement.value]

/-- The value of a field given later. -/
theorem Placement.value_cons_of_ne (n : FormatName) {f g : FieldName} (h : g ≠ f) (v : FieldValue)
    (vs : List (FieldName × FieldValue)) :
    (Placement.mk n ((f, v) :: vs)).value g = (Placement.mk n vs).value g := by
  simp [Placement.value, List.lookup_cons, beq_eq_false_iff_ne.2 h]

/-- The default table's packers are those of R100 to R158. -/
@[simp] theorem FormatTable.default_packer (n : FormatName) :
    FormatTable.default.packer n = Formats.default n := rfl

/-- The default table leaves an operation's placement as it is. -/
@[simp] theorem FormatTable.default_placement (op : OpCode) (p : Placement) :
    FormatTable.default.placement op p = p := rfl

/-- The word of an operation under the default table (R164). -/
@[simp] theorem FormatTable.default_word (op : OpCode) (p : Placement) :
    FormatTable.default.word op p = (Formats.default p.packer).pack p.value := rfl

/-- An operation in which a table does not depart keeps its placement. -/
theorem FormatTable.placement_of_unlisted {t : FormatTable} {op : OpCode} (h : t.rows.lookup op = none)
    (p : Placement) : t.placement op p = p := by simp [FormatTable.placement, h]

/-- A packer in which a table does not depart is the default's. -/
theorem FormatTable.packer_of_unlisted {t : FormatTable} {n : FormatName}
    (h : t.packers.lookup n = none) : t.packer n = Formats.default n := by
  simp [FormatTable.packer, h]

/-- A packer in which a table departs is the table's. -/
theorem FormatTable.packer_of_listed {t : FormatTable} {n : FormatName} {f : Format}
    (h : t.packers.lookup n = some f) : t.packer n = f := by simp [FormatTable.packer, h]

/-- In a state with the default table the word of a request is that of its placement. -/
theorem State.wordOf_default {s : State} (h : s.formatTable = FormatTable.default) (i : Instr) :
    s.wordOf i = (Formats.default i.placement.packer).pack i.placement.value := by
  simp [State.wordOf, h]

end Sys2Proof.Machine
end

