-- ==== Sys2Proof/Laws/Memory.lean ====
section
/-! SUPPORT. The laws of the output stream: a byte read back, the others left alone, and the canonical
form kept by every write. -/

namespace Sys2Proof.Machine

/-- A byte reads back as written. -/
theorem Memory.read_write_same (m : Memory) (a : Nat) (b : Byte) : (m.write a b).read a = some b := by
  induction m with
  | nil => simp [Memory.write, Memory.read]
  | cons x m ih =>
    obtain ⟨k, c⟩ := x
    simp only [Memory.write]
    split
    · simp [Memory.read]
    · split
      · simp [Memory.read]
      · have : k ≠ a := by omega
        simp [Memory.read, this, ih]

/-- A write leaves every other address alone. -/
theorem Memory.read_write_ne (m : Memory) {a a' : Nat} (b : Byte) (h : a' ≠ a) :
    (m.write a b).read a' = m.read a' := by
  induction m with
  | nil => simp [Memory.write, Memory.read, Ne.symm h]
  | cons x m ih =>
    obtain ⟨k, c⟩ := x
    simp only [Memory.write]
    split
    · simp [Memory.read, Ne.symm h]
    · split
      · subst_vars; simp [Memory.read, Ne.symm h]
      · simp [Memory.read, ih]

/-- What a byte reads as after one write. -/
theorem Memory.read_write (m : Memory) (a a' : Nat) (b : Byte) :
    (m.write a b).read a' = if a' = a then some b else m.read a' := by
  split
  · subst_vars; exact Memory.read_write_same ..
  · exact Memory.read_write_ne _ _ ‹_›

/-- Every address listed after a write was listed before or is the one written. -/
theorem Memory.mem_write {m : Memory} {a : Nat} {b : Byte} {x : Host.Cell} (h : x ∈ m.write a b) :
    x ∈ m ∨ x = (a, b) := by
  induction m with
  | nil => simp_all [Memory.write]
  | cons y m ih =>
    obtain ⟨k, c⟩ := y
    simp only [Memory.write] at h
    split at h
    · simp_all; tauto
    · split at h
      · simp_all; tauto
      · rcases List.mem_cons.1 h with h | h
        · simp [h]
        · rcases ih h with h | h <;> simp [h]

/-- A write keeps the canonical form. -/
theorem Memory.write_wf {m : Memory} (h : m.wf) (a : Nat) (b : Byte) : (m.write a b).wf := by
  induction m with
  | nil => simp [Memory.write, Memory.wf]
  | cons y m ih =>
    obtain ⟨k, c⟩ := y
    have hk := (List.pairwise_cons.1 h).1
    have hm := (List.pairwise_cons.1 h).2
    simp only [Memory.write]
    split
    · refine List.pairwise_cons.2 ⟨fun x hx => ?_, h⟩
      rcases List.mem_cons.1 hx with rfl | hx
      · assumption
      · have := hk x hx; simp at this ⊢; omega
    · split
      · subst_vars; exact List.pairwise_cons.2 ⟨fun x hx => hk x hx, hm⟩
      · refine List.pairwise_cons.2 ⟨fun x hx => ?_, ih hm⟩
        rcases Memory.mem_write hx with hx | rfl
        · exact hk x hx
        · simp; omega

/-- Writing a word keeps the canonical form. -/
theorem Memory.writeWord_wf {m : Memory} (h : m.wf) (order : ByteOrder) (a : Nat) (w : Word) :
    (m.writeWord order a w).wf :=
  Memory.write_wf (Memory.write_wf (Memory.write_wf (Memory.write_wf h _ _) _ _) _ _) _ _

/-- What a byte reads as after a word is written. -/
theorem Memory.read_writeWord (m : Memory) (order : ByteOrder) (a a' : Nat) (w : Word) :
    (m.writeWord order a w).read a' =
      if a ≤ a' ∧ a' < a + 4 then some (wordByte order w (a' - a)) else m.read a' := by
  simp only [Memory.writeWord, Memory.read_write]
  split
  · subst_vars; simp
  split
  · subst_vars; simp
  split
  · subst_vars; simp
  split
  · subst_vars; simp
  · have : ¬(a ≤ a' ∧ a' < a + 4) := by omega
    simp [this]

/-- The bytes of a word, put together again, are the word. -/
theorem wordOfBytes_wordByte (order : ByteOrder) (w : Word) :
    wordOfBytes order (wordByte order w 0) (wordByte order w 1) (wordByte order w 2)
      (wordByte order w 3) = w := by
  cases order <;>
  · simp only [wordOfBytes, wordByte]
    ext i hi
    simp only [BitVec.getElem_append, BitVec.getElem_extractLsb']
    interval_cases i <;> simp [BitVec.getElem_eq_testBit_toNat, BitVec.getLsbD]

/-- A word reads back as written. -/
theorem Memory.readWord_writeWord (m : Memory) (order : ByteOrder) (k : Nat) (w : Word) :
    (m.writeWord order (4 * k) w).readWord order k = some w := by
  simp [Memory.readWord, Memory.read_writeWord, wordOfBytes_wordByte]

/-- Writing a word leaves every other word alone. -/
theorem Memory.readWord_writeWord_ne (m : Memory) (order : ByteOrder) {k j : Nat} (w : Word)
    (h : j ≠ k) : (m.writeWord order (4 * k) w).readWord order j = m.readWord order j := by
  have h0 : ∀ i, i < 4 → ¬(4 * k ≤ 4 * j + i ∧ 4 * j + i < 4 * k + 4) := by omega
  have e0 := h0 0 (by omega)
  have e1 := h0 1 (by omega)
  have e2 := h0 2 (by omega)
  have e3 := h0 3 (by omega)
  simp only [Nat.add_zero] at e0
  simp only [Memory.readWord, Memory.read_writeWord, e0, e1, e2, e3, if_false]

end Sys2Proof.Machine
end

