-- ==== Sys2Proof/Laws/Operands.lean ====
section
/-! SUPPORT. The operand forms: each check of a request as the condition its rule writes, and each field
value of a word as the number the packer places. -/

namespace Sys2Proof.Machine

/-! ## Checks as the rules write them -/

theorem legalSize_eq (legal : List ReqInt) (size : ReqInt) :
    legalSize legal size = decide (size ∈ legal) := by
  simp [legalSize, List.contains_eq_mem]

theorem legalRotation_eq (legal : List ReqInt) (rot : ReqInt) :
    legalRotation legal rot = decide (rot ∈ legal) := by
  simp [legalRotation, List.contains_eq_mem]

theorem styleIn_eq (supported : List (BitVec 2)) (pg : GovPred) :
    styleIn supported pg = decide (pg.style ∈ supported) := by
  simp [styleIn, List.contains_eq_mem]

theorem sameRegister_eq {n : Nat} (a b : BitVec n) : sameRegister a b = decide (a = b) := by
  rw [Bool.eq_iff_iff]; simp [sameRegister]

theorem distinctSizes_eq (a b : ReqInt) : distinctSizes a b = decide (a ≠ b) := by
  rw [Bool.eq_iff_iff]; simp [distinctSizes]

@[simp] theorem sequential_nil (first : VReg) : sequential first [] = true := rfl

theorem sequential_cons (first z : VReg) (rest : List VReg) :
    sequential first (z :: rest) = (z == first + 1 && sequential (first + 1) rest) := rfl

/-- The register `k` after another, counted modulo 32 (R170). -/
theorem eq_add_iff (first z k : VReg) : z = first + k ↔ z.toNat = (first.toNat + k.toNat) % 32 := by
  rw [← BitVec.toNat_inj, BitVec.toNat_add]

/-! ## Field values as the packer places them -/

/-- `sizecode` is one of four (R62). -/
theorem sizecode_cases (size : ReqInt) :
    sizecode size = 0 ∨ sizecode size = 1 ∨ sizecode size = 2 ∨ sizecode size = 3 := by
  unfold sizecode; repeat' split
  all_goals simp

theorem sizeField_setWidth (size : ReqInt) :
    (sizeField size).setWidth 32 = BitVec.ofNat 32 (sizecode size) := by
  unfold sizeField; rcases sizecode_cases size with h | h | h | h <;> rw [h] <;> rfl

theorem sizeField4_setWidth (size : ReqInt) :
    (sizeField4 size).setWidth 32 = BitVec.ofNat 32 (sizecode size) := by
  unfold sizeField4; rcases sizecode_cases size with h | h | h | h <;> rw [h] <;> rfl

/-- A size of the 2-bit field is read back from it (R62, R79). -/
theorem sizeOfCode_sizeField {size : ReqInt} (h : size ∈ [(8 : ReqInt), 16, 32, 64]) :
    sizeOfCode (sizeField size) = size := by
  simp at h; rcases h with rfl | rfl | rfl | rfl <;> decide

/-- The index of a governing predicate p0..p7 fits its 3-bit field (R64, R165). -/
theorem lowPredicate_setWidth {p : BitVec 4} (h : p ≤ 7) :
    (p.setWidth 3).setWidth 32 = p.setWidth 32 := by revert p; decide

/-- An immediate placed modulo a power of two (R71). -/
theorem modField_ofInt (k : Nat) (imm : ReqInt) :
    (BitVec.ofInt k imm.toInt).setWidth 32 = BitVec.ofNat 32 (modField imm (2 ^ k)) := by
  apply BitVec.eq_of_toNat_eq
  simp only [BitVec.toNat_setWidth, BitVec.toNat_ofInt, BitVec.toNat_ofNat, modField]
  norm_cast

/-- An immediate placed in units of N (R72). -/
theorem scaledField_ofInt (n : Int) (imm : ReqInt) :
    (BitVec.ofInt 4 (imm.toInt / n)).setWidth 32 = BitVec.ofNat 32 (scaledField imm n) := by
  apply BitVec.eq_of_toNat_eq
  simp only [BitVec.toNat_setWidth, BitVec.toNat_ofInt, BitVec.toNat_ofNat, scaledField]
  norm_cast

/-- `FcvtTable`'s two codes as fields (R494). -/
theorem fcvtCode_setWidth (dsize ssize : ReqInt) :
    (fcvtCode dsize ssize).1.setWidth 32 = BitVec.ofNat 32 (fcvtTable dsize ssize).1 ∧
    (fcvtCode dsize ssize).2.setWidth 32 = BitVec.ofNat 32 (fcvtTable dsize ssize).2 := by
  unfold fcvtCode fcvtTable
  constructor <;> (repeat' split) <;> rfl

/-- The sizes of a conversion are read back from its codes (R494, R79). -/
theorem fcvtSizes_fcvtCode {a b : ReqInt} (ha : a ∈ [(16 : ReqInt), 32, 64])
    (hb : b ∈ [(16 : ReqInt), 32, 64]) (hn : a ≠ b) :
    fcvtSizes (fcvtCode a b).1 (fcvtCode a b).2 = (a, b) := by
  simp at ha hb
  rcases ha with rfl | rfl | rfl <;> rcases hb with rfl | rfl | rfl <;>
    first | rfl | exact absurd rfl hn

end Sys2Proof.Machine
end

