-- ==== Sys2Proof/Laws/State.lean ====
section
/-! SUPPORT. One lemma per field per update of the state, and what the state after reset holds. -/

namespace Sys2Proof.Machine

@[simp] theorem State.append_halted (s : State) (w : Word) :
    (s.append w).halted = s.halted := rfl
@[simp] theorem State.append_cause (s : State) (w : Word) :
    (s.append w).cause = s.cause := rfl
@[simp] theorem State.append_diagOp (s : State) (w : Word) :
    (s.append w).diagOp = s.diagOp := rfl
@[simp] theorem State.append_diagValue (s : State) (w : Word) :
    (s.append w).diagValue = s.diagValue := rfl
@[simp] theorem State.append_wpos (s : State) (w : Word) :
    (s.append w).wpos = s.wpos + 1 := rfl
@[simp] theorem State.append_stream (s : State) (w : Word) :
    (s.append w).stream = s.stream.writeWord s.byteOrder (4 * s.wpos) w := rfl
@[simp] theorem State.append_wpos0 (s : State) (w : Word) :
    (s.append w).wpos0 = s.wpos0 := rfl
@[simp] theorem State.append_byteOrder (s : State) (w : Word) :
    (s.append w).byteOrder = s.byteOrder := rfl
@[simp] theorem State.append_formatTable (s : State) (w : Word) :
    (s.append w).formatTable = s.formatTable := rfl
@[simp] theorem State.append_port (s : State) (w : Word) :
    (s.append w).port = s.port := rfl
@[simp] theorem State.append_freeCount (s : State) (w : Word) :
    (s.append w).freeCount = s.freeCount := rfl

@[simp] theorem State.raise_halted (s : State) (op : OpCode) (c : Cause) (v : BitVec 32) :
    (s.raise op c v).halted = true := rfl
@[simp] theorem State.raise_cause (s : State) (op : OpCode) (c : Cause) (v : BitVec 32) :
    (s.raise op c v).cause = Cause.toCode c := rfl
@[simp] theorem State.raise_diagOp (s : State) (op : OpCode) (c : Cause) (v : BitVec 32) :
    (s.raise op c v).diagOp = op := rfl
@[simp] theorem State.raise_diagValue (s : State) (op : OpCode) (c : Cause) (v : BitVec 32) :
    (s.raise op c v).diagValue = v := rfl
@[simp] theorem State.raise_wpos (s : State) (op : OpCode) (c : Cause) (v : BitVec 32) :
    (s.raise op c v).wpos = s.wpos := rfl
@[simp] theorem State.raise_stream (s : State) (op : OpCode) (c : Cause) (v : BitVec 32) :
    (s.raise op c v).stream = s.stream := rfl
@[simp] theorem State.raise_wpos0 (s : State) (op : OpCode) (c : Cause) (v : BitVec 32) :
    (s.raise op c v).wpos0 = s.wpos0 := rfl
@[simp] theorem State.raise_byteOrder (s : State) (op : OpCode) (c : Cause) (v : BitVec 32) :
    (s.raise op c v).byteOrder = s.byteOrder := rfl
@[simp] theorem State.raise_formatTable (s : State) (op : OpCode) (c : Cause) (v : BitVec 32) :
    (s.raise op c v).formatTable = s.formatTable := rfl
@[simp] theorem State.raise_port (s : State) (op : OpCode) (c : Cause) (v : BitVec 32) :
    (s.raise op c v).port = s.port := rfl
@[simp] theorem State.raise_freeCount (s : State) (op : OpCode) (c : Cause) (v : BitVec 32) :
    (s.raise op c v).freeCount = s.freeCount := rfl

@[simp] theorem State.takeReset_halted (s : State) :
    (s.takeReset).halted = false := rfl
@[simp] theorem State.takeReset_cause (s : State) :
    (s.takeReset).cause = 0 := rfl
@[simp] theorem State.takeReset_diagOp (s : State) :
    (s.takeReset).diagOp = Config.freeDiagOp s.freeCount := rfl
@[simp] theorem State.takeReset_diagValue (s : State) :
    (s.takeReset).diagValue = Config.freeDiagValue s.freeCount := rfl
@[simp] theorem State.takeReset_wpos (s : State) :
    (s.takeReset).wpos = s.wpos := rfl
@[simp] theorem State.takeReset_stream (s : State) :
    (s.takeReset).stream = s.stream := rfl
@[simp] theorem State.takeReset_wpos0 (s : State) :
    (s.takeReset).wpos0 = s.wpos0 := rfl
@[simp] theorem State.takeReset_byteOrder (s : State) :
    (s.takeReset).byteOrder = s.byteOrder := rfl
@[simp] theorem State.takeReset_formatTable (s : State) :
    (s.takeReset).formatTable = s.formatTable := rfl
@[simp] theorem State.takeReset_port (s : State) :
    (s.takeReset).port = s.port := rfl
@[simp] theorem State.takeReset_freeCount (s : State) :
    (s.takeReset).freeCount = s.freeCount + 1 := rfl

@[simp] theorem State.withFetchWord_halted (s : State) (n w : Nat) :
    (s.withFetchWord n w).halted = s.halted := rfl
@[simp] theorem State.withFetchWord_cause (s : State) (n w : Nat) :
    (s.withFetchWord n w).cause = s.cause := rfl
@[simp] theorem State.withFetchWord_diagOp (s : State) (n w : Nat) :
    (s.withFetchWord n w).diagOp = s.diagOp := rfl
@[simp] theorem State.withFetchWord_diagValue (s : State) (n w : Nat) :
    (s.withFetchWord n w).diagValue = s.diagValue := rfl
@[simp] theorem State.withFetchWord_wpos (s : State) (n w : Nat) :
    (s.withFetchWord n w).wpos = s.wpos := rfl
@[simp] theorem State.withFetchWord_stream (s : State) (n w : Nat) :
    (s.withFetchWord n w).stream = s.stream := rfl
@[simp] theorem State.withFetchWord_wpos0 (s : State) (n w : Nat) :
    (s.withFetchWord n w).wpos0 = s.wpos0 := rfl
@[simp] theorem State.withFetchWord_byteOrder (s : State) (n w : Nat) :
    (s.withFetchWord n w).byteOrder = s.byteOrder := rfl
@[simp] theorem State.withFetchWord_formatTable (s : State) (n w : Nat) :
    (s.withFetchWord n w).formatTable = s.formatTable := rfl
@[simp] theorem State.withFetchWord_port (s : State) (n w : Nat) :
    (s.withFetchWord n w).port = .request (requestOfTableWord n w) :: s.port := rfl
@[simp] theorem State.withFetchWord_freeCount (s : State) (n w : Nat) :
    (s.withFetchWord n w).freeCount = s.freeCount := rfl

@[simp] theorem State.reset_halted : State.reset.halted = false := rfl
@[simp] theorem State.reset_cause : State.reset.cause = 0 := rfl
@[simp] theorem State.reset_wpos : State.reset.wpos = 0 := rfl
@[simp] theorem State.reset_stream : State.reset.stream = [] := rfl
@[simp] theorem State.reset_wpos0 : State.reset.wpos0 = 0 := rfl
@[simp] theorem State.reset_byteOrder : State.reset.byteOrder = .little := rfl
@[simp] theorem State.reset_formatTable : State.reset.formatTable = FormatTable.default := rfl
@[simp] theorem State.reset_port : State.reset.port = [] := rfl
@[simp] theorem State.reset_freeCount : State.reset.freeCount = 0 := rfl

/-- The query of the position shows the cursor (R52). -/
@[simp] theorem State.queryPosition_eq (s : State) : s.queryPosition = s.wpos := rfl

/-- The status port shows the four fields of the FAULT status (R23). -/
@[simp] theorem State.faultStatus_eq (s : State) :
    s.faultStatus = ⟨s.halted, s.cause, s.diagOp, s.diagValue⟩ := rfl

end Sys2Proof.Machine
end

