-- ==== Sys2Proof/Laws/Ops.lean ====
section
/-! SUPPORT. What each shared operation can do, said once: the step of a request, the forwarding of a
polymorphic one, and a step of the machine. -/

namespace Sys2Proof.Machine

/-- No check fails exactly when every check holds. -/
theorem firstFailed_eq_none {cs : List Check} : firstFailed cs = none ↔ ∀ c ∈ cs, c.ok = true := by
  simp [firstFailed, List.find?_eq_none]

/-- The first failed check is one of the checks, and fails. -/
theorem firstFailed_eq_some {cs : List Check} {c : Check} (h : firstFailed cs = some c) :
    c ∈ cs ∧ c.ok = false := by
  refine ⟨List.mem_of_find?_eq_some h, ?_⟩
  simpa using List.find?_some h

/-- A check that holds is passed over. -/
@[simp] theorem firstFailed_cons_ok {c : Check} {cs : List Check} (h : c.ok = true) :
    firstFailed (c :: cs) = firstFailed cs := by simp [firstFailed, h]

/-- A check that fails is the first failed one. -/
@[simp] theorem firstFailed_cons_failed {c : Check} {cs : List Check} (h : c.ok = false) :
    firstFailed (c :: cs) = some c := by simp [firstFailed, h]

/-- Nothing to check fails nothing. -/
@[simp] theorem firstFailed_nil : firstFailed [] = none := rfl

/-- While the latch is set a request changes nothing (R606). -/
theorem perform_halted {op : OpCode} {cs : List Check} {p : Placement} {s : State}
    (h : s.halted = true) : perform op cs p s = .next s := by simp [perform, h]

/-- A request whose checks hold appends the word that the run's format table builds (R160, R164). -/
theorem perform_accepted {op : OpCode} {cs : List Check} {p : Placement} {s : State}
    (h : s.halted = false) (hc : firstFailed cs = none) :
    perform op cs p s = .next (s.append (s.formatTable.word op p)) := by
  simp [perform, h, hc]

/-- A request with a failed check raises (R160, R604). -/
theorem perform_raised {op : OpCode} {cs : List Check} {p : Placement} {s : State} {c : Check}
    (h : s.halted = false) (hc : firstFailed cs = some c) :
    perform op cs p s = .next (s.raise op c.cause c.value) := by simp [perform, h, hc]

/-- All that the step of a request can do (R160). -/
theorem perform_cases (op : OpCode) (cs : List Check) (p : Placement) (s : State) :
    (s.halted = true ∧ perform op cs p s = .next s) ∨
    (s.halted = false ∧ firstFailed cs = none ∧
      perform op cs p s = .next (s.append (s.formatTable.word op p))) ∨
    (s.halted = false ∧ ∃ c, firstFailed cs = some c ∧
      perform op cs p s = .next (s.raise op c.cause c.value)) := by
  cases h : s.halted with
  | true => exact .inl ⟨rfl, perform_halted h⟩
  | false =>
    cases hc : firstFailed cs with
    | none => exact .inr (.inl ⟨rfl, rfl, perform_accepted h hc⟩)
    | some c => exact .inr (.inr ⟨rfl, c, rfl, perform_raised h hc⟩)

/-- A meaning that is the step of its checks and its placement follows the rule with those lines, or with
the same lines written otherwise, and the word that the default table builds where the lines hold. -/
theorem follows_of_perform {i : Instr} {cs cs' : List Check} {p : Placement} {w : Word}
    (h : ∀ s, exec i s = perform i.op cs p s) (hc : cs = cs')
    (hw : (∀ c ∈ cs', c.ok = true) → FormatTable.default.word i.op p = w) : Follows i cs' w := by
  subst hc
  intro s hs
  refine ⟨fun ht hc => ?_, fun b a c hl hb hc => ?_⟩
  · rw [h, perform_accepted hs (firstFailed_eq_none.2 hc), ht, hw hc]
  · rw [h]
    refine perform_raised hs ?_
    subst hl
    have : List.find? (fun c => !c.ok) b = none := by simpa [List.find?_eq_none] using hb
    simp [firstFailed, List.find?_append, this, hc]

/-- States that differ in the word appended last are different. -/
@[simp] theorem State.append_inj {s : State} {w w' : Word} : s.append w = s.append w' ↔ w = w' := by
  refine ⟨fun h => ?_, fun h => h ▸ rfl⟩
  have := congrArg (fun t => t.stream.readWord s.byteOrder s.wpos) h
  simpa [Memory.readWord_writeWord] using this

/-- The step of an unwired tag (R84): refused, or AddressingMode raised. -/
theorem execUnwired_eq (p : PolyOp) (mem : MemoryOperand) (s : State) :
    execUnwired p mem s =
      .next (if s.halted then s else s.raise p.code .addressingMode (mem.tag.setWidth 32)) := by
  unfold execUnwired; split <;> rfl

/-- What forwarding does with the target's step (R167): the target's next state, with the recorded name
where the target raised. -/
theorem execForwarded_next {p : PolyOp} {i : Instr} {s t : State} (h : exec i s = .next t) :
    execForwarded p i s = .next (if s.halted then t else if t.halted then
      { t with diagOp := forwardedName p t.diagOp } else t) := by
  simp [execForwarded, h]

/-- The recorded name is the requested one or the target's (R604, R167). -/
theorem forwardedName_cases (p : PolyOp) (o : OpCode) :
    forwardedName p o = o ∨ forwardedName p o = p.code := by
  unfold forwardedName; split <;> simp

/-- One step of a run that answers a next state. -/
theorem run_succ (M : Host.Core) (n : Nat) (s t : M.State) (h : M.step s = .next t) :
    M.run (n + 1) s = M.run n t := by simp [Host.Core.run, h]

/-- With nothing on the port the block waits (R630). -/
theorem step_idle {s : State} (h : s.port = []) : step s = .next s := by simp [step, h]

/-- A reset on the port (R630). -/
theorem step_reset {s : State} {rest : List PortEvent} (h : s.port = .reset :: rest) :
    step s = .next (State.takeReset { s with port := rest }) := by simp [step, h]

/-- A request of an operation on the port (R160). -/
theorem step_direct {s : State} {i : Instr} {v : ScalarViews} {rest : List PortEvent}
    (h : s.port = .request (.direct i v) :: rest) : step s = exec i { s with port := rest } := by
  simp [step, h]

/-- A polymorphic request on the port (R167). -/
theorem step_polymorphic {s : State} {p : PolyOp} {size : ReqInt} {zt : VReg} {pg : GovPred}
    {mem : MemoryOperand} {v : ScalarViews} {rest : List PortEvent}
    (h : s.port = .request (.polymorphic p size zt pg mem v) :: rest) :
    step s = execPolymorphic p size zt pg mem { s with port := rest } := by simp [step, h]

end Sys2Proof.Machine
end

