-- ==== Sys2Proof/Laws/Words.lean ====
section
/-! SUPPORT. What placing a field in a word does, bit by bit: reading the field back, the bits it leaves
alone, and finding the row of a word. -/

namespace Sys2Proof.Machine

/-- The bits of a placed field. -/
theorem getLsbD_place {n : Nat} (x : BitVec n) (low k : Nat) :
    (place x low).getLsbD k = (decide (k < 32) && !decide (k < low) && x.getLsbD (k - low)) := by
  simp only [place, BitVec.getLsbD_shiftLeft, BitVec.getLsbD_setWidth]
  by_cases h : k < 32
  · by_cases h2 : k < low
    · simp [h, h2]
    · simp [h, h2, show k - low < 32 by omega]
  · simp [h]

/-- A field outside a mask vanishes under it. -/
theorem place_and_eq_zero {n : Nat} (x : BitVec n) (low : Nat) (m : Word)
    (h : place (BitVec.allOnes n) low &&& m = 0#32) : place x low &&& m = 0#32 := by
  apply BitVec.eq_of_getLsbD_eq
  intro k _
  have := congrArg (fun v => v.getLsbD k) h
  simp only [BitVec.getLsbD_and, getLsbD_place, BitVec.getLsbD_allOnes] at *
  by_cases hx : x.getLsbD (k - low) = true
  · have := BitVec.lt_of_getLsbD hx
    simp_all
  · simp_all

/-- A field is read back where it was placed. -/
theorem extractLsb'_place {n : Nat} (x : BitVec n) (low : Nat) (h : low + n ≤ 32) :
    (place x low).extractLsb' low n = x := by
  apply BitVec.eq_of_getLsbD_eq
  intro k hk
  simp only [BitVec.getLsbD_extractLsb', getLsbD_place]
  simp [hk, show low + k < 32 by omega]

/-- A field is not seen where it was not placed. -/
theorem extractLsb'_place_of_disjoint {n : Nat} (x : BitVec n) (low low' n' : Nat)
    (h : low' + n' ≤ low ∨ low + n ≤ low') : (place x low).extractLsb' low' n' = 0#n' := by
  apply BitVec.eq_of_getLsbD_eq
  intro k hk
  simp only [BitVec.getLsbD_extractLsb', getLsbD_place, hk]
  rcases h with h | h
  · simp; omega
  · have : x.getLsbD (low' + k - low) = false := BitVec.getLsbD_of_ge _ _ (by omega)
    simp [this]

/-- Reading a field of an OR. -/
theorem extractLsb'_or_word (a b : Word) (low n : Nat) :
    (a ||| b).extractLsb' low n = a.extractLsb' low n ||| b.extractLsb' low n := by
  apply BitVec.eq_of_getLsbD_eq; intro k hk; simp [hk]

/-- Placing back what was read keeps the field's bits and no other. -/
theorem place_extractLsb' (w : Word) (low n : Nat) :
    place (w.extractLsb' low n) low = w &&& place (BitVec.allOnes n) low := by
  apply BitVec.eq_of_getLsbD_eq; intro k hk
  simp only [BitVec.getLsbD_and, getLsbD_place, BitVec.getLsbD_extractLsb', BitVec.getLsbD_allOnes]
  by_cases h : k < low
  · simp [h]
  · rw [show low + (k - low) = k by omega]; simp [hk, h, Bool.and_comm]

/-- AND distributes over OR, masks on the right. -/
theorem or_and_word (a b m : Word) : (a ||| b) &&& m = a &&& m ||| b &&& m := by
  apply BitVec.eq_of_getLsbD_eq; intro k _
  simp only [BitVec.getLsbD_and, BitVec.getLsbD_or]
  cases a.getLsbD k <;> cases b.getLsbD k <;> cases m.getLsbD k <;> rfl

/-- Two parts of one word together. -/
theorem and_or_and_word (w a b : Word) : w &&& a ||| w &&& b = w &&& (a ||| b) := by
  apply BitVec.eq_of_getLsbD_eq; intro k _
  simp only [BitVec.getLsbD_and, BitVec.getLsbD_or]
  cases a.getLsbD k <;> cases b.getLsbD k <;> cases w.getLsbD k <;> rfl

/-- The rows being disjoint, a word with one row's fixed bits is found at that row. -/
theorem find_pattern {ps : List Pattern}
    (hp : ps.Pairwise (fun p q => (p.value ^^^ q.value) &&& (p.mask &&& q.mask) ≠ 0))
    {p : Pattern} (hm : p ∈ ps) {w : Word} (hw : w &&& p.mask = p.value) :
    ps.find? (fun p => w &&& p.mask == p.value) = some p := by
  induction ps with
  | nil => simp at hm
  | cons q qs ih =>
    rw [List.pairwise_cons] at hp
    rw [List.find?_cons]
    rcases List.mem_cons.1 hm with rfl | hm
    · simp [hw]
    · have : (w &&& q.mask == q.value) = false := by
        by_contra hc
        have hc : w &&& q.mask = q.value := by simpa using hc
        apply hp.1 p hm
        rw [← hw, ← hc]
        apply BitVec.eq_of_getLsbD_eq; intro k _
        show _ = (0#32).getLsbD k
        simp only [BitVec.getLsbD_and, BitVec.getLsbD_xor, BitVec.getLsbD_zero]
        cases w.getLsbD k <;> cases q.mask.getLsbD k <;> cases p.mask.getLsbD k <;> rfl
      simp [this, ih hp.2 hm]

end Sys2Proof.Machine
end

