-- ==== Sys2Proof/Tests/Slice0.lean ====
section
/-! SUPPORT. Tests on small states, one step each. Expected words are the spec's own (spec/95 and spec/96);
expected causes and values are read off the rules' `require` lines and the table of R601. -/

set_option Elab.async false

namespace Sys2Proof.Tests

open Sys2Proof Sys2Proof.Machine

/-- The request appends the word after reset, encodes as it, and is what it decodes to. -/
noncomputable def accepted (p : Instr × Word) : Bool :=
  decide (p.1.wellFormed = true) && decide (p.1.encode = p.2)
  && (match exec p.1 State.reset with | .next t => t == State.reset.append p.2 | _ => false)
  && (match decodeWord p.2 with | .ok i => i == p.1 | _ => false)

/-- The request raises the cause with the value after reset, and is not well formed. -/
def raised (p : Instr × Cause × ReqInt) : Bool :=
  !p.1.wellFormed
  && (match exec p.1 State.reset with
      | .next t => t == State.reset.raise p.1.op p.2.1 p.2.2
      | _ => false)

/-! ## The operation rules -/

/-- Spec vectors V2, V5, V8, V11, V14, V17, V59, V61, V63, V65: each request appends that word and no other,
its encoding is that word, and the word decodes to it. They meet the hypotheses of
AddSubtractAndLogicalUnpredicatedFollowTheirRules on its accepting side. -/
theorem test_words_AddSubtractAndLogicalUnpredicated :
    ([(.addUnpred 64 31 30 29, 0x04FD03DF),
      (.subUnpred 64 31 30 29, 0x04FD07DF),
      (.sqaddUnpred 64 31 30 29, 0x04FD13DF),
      (.uqaddUnpred 64 31 30 29, 0x04FD17DF),
      (.sqsubUnpred 64 31 30 29, 0x04FD1BDF),
      (.uqsubUnpred 64 31 30 29, 0x04FD1FDF),
      (.andUnpred 31 30 29, 0x043D33DF),
      (.orrUnpred 31 30 29, 0x047D33DF),
      (.eorUnpred 31 30 29, 0x04BD33DF),
      (.bicUnpred 31 30 29, 0x04FD33DF)] : List (Instr × Word)).all accepted = true := by decide +kernel

/-- Each `require` line of the rules failing first, at the ends of its range: the cause and the value of
R601. They meet the hypotheses of AddSubtractAndLogicalUnpredicatedFollowTheirRules on its raising side. -/
theorem test_raises_AddSubtractAndLogicalUnpredicated :
    ([(.addUnpred 128 0 1 2, .elementSize, 128)] : List (Instr × Cause × ReqInt)).all raised = true := by decide +kernel

/-- Spec vectors V20, V23, V26, V29, V32, V35, V38, V41, V44: each request appends that word and no other,
its encoding is that word, and the word decodes to it. They meet the hypotheses of
AddSubtractMinMaxDifferencePredicatedFollowTheirRules on its accepting side. -/
theorem test_words_AddSubtractMinMaxDifferencePredicated :
    ([(.addPred 64 31 ⟨7, 1⟩ 31 30, 0x04C01FDF),
      (.subPred 64 31 ⟨7, 1⟩ 31 30, 0x04C11FDF),
      (.subrPred 64 31 ⟨7, 1⟩ 31 30, 0x04C31FDF),
      (.smaxPred 64 31 ⟨7, 1⟩ 31 30, 0x04C81FDF),
      (.umaxPred 64 31 ⟨7, 1⟩ 31 30, 0x04C91FDF),
      (.sminPred 64 31 ⟨7, 1⟩ 31 30, 0x04CA1FDF),
      (.uminPred 64 31 ⟨7, 1⟩ 31 30, 0x04CB1FDF),
      (.sabdPred 64 31 ⟨7, 1⟩ 31 30, 0x04CC1FDF),
      (.uabdPred 64 31 ⟨7, 1⟩ 31 30, 0x04CD1FDF)] : List (Instr × Word)).all accepted = true := by decide +kernel

/-- Each `require` line of the rules failing first, at the ends of its range: the cause and the value of
R601. They meet the hypotheses of AddSubtractMinMaxDifferencePredicatedFollowTheirRules on its raising side. -/
theorem test_raises_AddSubtractMinMaxDifferencePredicated :
    ([(.addPred 128 0 ⟨0, 1⟩ 0 1, .elementSize, 128),
      (.addPred 32 0 ⟨8, 1⟩ 0 1, .operandRange, 8),
      (.addPred 32 0 ⟨0, 2⟩ 0 1, .operandRange, 2),
      (.addPred 32 0 ⟨0, 1⟩ 1 1, .aliasing, 0)] : List (Instr × Cause × ReqInt)).all raised = true := by decide +kernel

/-- Spec vectors V47, V50, V53, V56, V67, V70, V73: each request appends that word and no other, its
encoding is that word, and the word decodes to it. They meet the hypotheses of
LogicalPredicatedAndIntegerComplexFollowTheirRules on its accepting side. -/
theorem test_words_LogicalPredicatedAndIntegerComplex :
    ([(.orrPred 64 31 ⟨7, 1⟩ 31 30, 0x04D81FDF),
      (.eorPred 64 31 ⟨7, 1⟩ 31 30, 0x04D91FDF),
      (.andPred 64 31 ⟨7, 1⟩ 31 30, 0x04DA1FDF),
      (.bicPred 64 31 ⟨7, 1⟩ 31 30, 0x04DB1FDF),
      (.cadd 64 31 31 30 270, 0x45C0DFDF),
      (.sqcadd 64 31 31 30 270, 0x45C1DFDF),
      (.cmla 8 31 30 29 270, 0x441D2FDF)] : List (Instr × Word)).all accepted = true := by decide +kernel

/-- Each `require` line of the rules failing first, at the ends of its range: the cause and the value of
R601. They meet the hypotheses of LogicalPredicatedAndIntegerComplexFollowTheirRules on its raising side. -/
theorem test_raises_LogicalPredicatedAndIntegerComplex :
    ([(.cadd 128 0 0 1 90, .elementSize, 128),
      (.cadd 32 0 0 1 45, .immediateRange, 45),
      (.cadd 32 0 0 1 180, .immediateRange, 180),
      (.cadd 32 0 1 1 90, .aliasing, 0),
      (.cmla 128 0 1 2 0, .elementSize, 128),
      (.cmla 32 0 1 2 45, .immediateRange, 45)] : List (Instr × Cause × ReqInt)).all raised = true := by decide +kernel

/-- Spec vectors V76, V79, V82, V85, V88, V91, V94, V97, V100, V103: each request appends that word and no
other, its encoding is that word, and the word decodes to it. They meet the hypotheses of
CompareWithImmediateFollowTheirRules on its accepting side. -/
theorem test_words_CompareWithImmediate :
    ([(.cmpgeImm 64 15 ⟨7, 2⟩ 31 (-16), 0x25D01FEF),
      (.cmpgtImm 64 15 ⟨7, 2⟩ 31 (-16), 0x25D01FFF),
      (.cmpltImm 64 15 ⟨7, 2⟩ 31 (-16), 0x25D03FEF),
      (.cmpleImm 64 15 ⟨7, 2⟩ 31 (-16), 0x25D03FFF),
      (.cmpeqImm 64 15 ⟨7, 2⟩ 31 (-16), 0x25D09FEF),
      (.cmpneImm 64 15 ⟨7, 2⟩ 31 (-16), 0x25D09FFF),
      (.cmphsImm 64 15 ⟨7, 2⟩ 31 127, 0x24FFDFEF),
      (.cmphiImm 64 15 ⟨7, 2⟩ 31 127, 0x24FFDFFF),
      (.cmploImm 64 15 ⟨7, 2⟩ 31 127, 0x24FFFFEF),
      (.cmplsImm 64 15 ⟨7, 2⟩ 31 127, 0x24FFFFFF)] : List (Instr × Word)).all accepted = true := by decide +kernel

/-- Each `require` line of the rules failing first, at the ends of its range: the cause and the value of
R601. They meet the hypotheses of CompareWithImmediateFollowTheirRules on its raising side. -/
theorem test_raises_CompareWithImmediate :
    ([(.cmpgeImm 128 0 ⟨0, 2⟩ 0 0, .elementSize, 128),
      (.cmpgeImm 8 0 ⟨8, 2⟩ 0 0, .operandRange, 8),
      (.cmpgeImm 8 0 ⟨0, 1⟩ 0 0, .operandRange, 1),
      (.cmpgeImm 8 0 ⟨0, 2⟩ 0 16, .immediateRange, 16),
      (.cmpgeImm 8 0 ⟨0, 2⟩ 0 (-17), .immediateRange, (-17)),
      (.cmphsImm 128 0 ⟨0, 2⟩ 0 0, .elementSize, 128),
      (.cmphsImm 8 0 ⟨8, 2⟩ 0 0, .operandRange, 8),
      (.cmphsImm 8 0 ⟨0, 1⟩ 0 0, .operandRange, 1),
      (.cmphsImm 8 0 ⟨0, 2⟩ 0 128, .immediateRange, 128),
      (.cmphsImm 8 0 ⟨0, 2⟩ 0 (-1), .immediateRange, (-1))] : List (Instr × Cause × ReqInt)).all raised = true := by decide +kernel

/-- Spec vectors V106, V109, V112, V115, V118, V121: each request appends that word and no other, its
encoding is that word, and the word decodes to it. They meet the hypotheses of
CompareVectorsFollowTheirRules on its accepting side. -/
theorem test_words_CompareVectors :
    ([(.cmphsVec 64 15 ⟨7, 2⟩ 31 30, 0x24DE1FEF),
      (.cmphiVec 64 15 ⟨7, 2⟩ 31 30, 0x24DE1FFF),
      (.cmpgeVec 64 15 ⟨7, 2⟩ 31 30, 0x24DE9FEF),
      (.cmpgtVec 64 15 ⟨7, 2⟩ 31 30, 0x24DE9FFF),
      (.cmpeqVec 64 15 ⟨7, 2⟩ 31 30, 0x24DEBFEF),
      (.cmpneVec 64 15 ⟨7, 2⟩ 31 30, 0x24DEBFFF)] : List (Instr × Word)).all accepted = true := by decide +kernel

/-- Each `require` line of the rules failing first, at the ends of its range: the cause and the value of
R601. They meet the hypotheses of CompareVectorsFollowTheirRules on its raising side. -/
theorem test_raises_CompareVectors :
    ([(.cmphsVec 128 0 ⟨0, 2⟩ 0 1, .elementSize, 128),
      (.cmphsVec 8 0 ⟨8, 2⟩ 0 1, .operandRange, 8),
      (.cmphsVec 8 0 ⟨0, 1⟩ 0 1, .operandRange, 1)] : List (Instr × Cause × ReqInt)).all raised = true := by decide +kernel

/-- Spec vectors V124, V127, V130, V133, V136, V139, V142, V145: each request appends that word and no
other, its encoding is that word, and the word decodes to it. They meet the hypotheses of
PermuteAndTableLookupFollowTheirRules on its accepting side. -/
theorem test_words_PermuteAndTableLookup :
    ([(.zip1 8 31 30 29, 0x053D63DF),
      (.zip2 8 31 30 29, 0x053D67DF),
      (.uzp1 8 31 30 29, 0x053D6BDF),
      (.uzp2 8 31 30 29, 0x053D6FDF),
      (.trn1 8 31 30 29, 0x053D73DF),
      (.trn2 8 31 30 29, 0x053D77DF),
      (.tbl 64 31 30 29, 0x05FD33DF),
      (.tbx 64 31 30 29, 0x05FD2FDF)] : List (Instr × Word)).all accepted = true := by decide +kernel

/-- Spec vectors V148, V151, V154, V157, V160: each request appends that word and no other, its encoding is
that word, and the word decodes to it. They meet the hypotheses of
IndexedDuplicateExtractSpliceFollowTheirRules on its accepting side. -/
theorem test_words_IndexedDuplicateExtractSplice :
    ([(.dupIndexed 128 31 30 3, 0x05F023DF),
      (.extDestructive 31 31 30 255, 0x053F1FDF),
      (.extConstructive 5 31 0 255, 0x057F1FE5),
      (.spliceDestructive 64 31 ⟨7, 0⟩ 31 30, 0x05EC9FDF),
      (.spliceConstructive 8 5 ⟨7, 0⟩ 31 0, 0x052D9FE5)] : List (Instr × Word)).all accepted = true := by decide +kernel

/-- Each `require` line of the rules failing first, at the ends of its range: the cause and the value of
R601. They meet the hypotheses of IndexedDuplicateExtractSpliceFollowTheirRules on its raising side. -/
theorem test_raises_IndexedDuplicateExtractSplice :
    ([(.dupIndexed 256 0 1 0, .elementSize, 256),
      (.dupIndexed 32 0 1 (-1), .immediateRange, (-1)),
      (.dupIndexed 32 0 1 16, .immediateRange, 16),
      (.extDestructive 0 0 1 256, .immediateRange, 256),
      (.extDestructive 0 0 1 (-1), .immediateRange, (-1)),
      (.extDestructive 0 1 1 1, .aliasing, 0),
      (.extConstructive 0 1 2 256, .immediateRange, 256),
      (.extConstructive 0 1 2 (-1), .immediateRange, (-1)),
      (.extConstructive 0 1 3 1, .aliasing, 1),
      (.spliceDestructive 128 0 ⟨0, 0⟩ 0 1, .elementSize, 128),
      (.spliceDestructive 32 0 ⟨8, 0⟩ 0 1, .operandRange, 8),
      (.spliceDestructive 32 0 ⟨0, 2⟩ 0 1, .operandRange, 2),
      (.spliceDestructive 32 0 ⟨0, 0⟩ 1 1, .aliasing, 0),
      (.spliceConstructive 128 0 ⟨0, 0⟩ 1 2, .elementSize, 128),
      (.spliceConstructive 32 0 ⟨8, 0⟩ 1 2, .operandRange, 8),
      (.spliceConstructive 32 0 ⟨0, 2⟩ 1 2, .operandRange, 2),
      (.spliceConstructive 32 0 ⟨0, 0⟩ 1 3, .aliasing, 1)] : List (Instr × Cause × ReqInt)).all raised = true := by decide +kernel

/-- Spec vectors V163, V166, V169, V172, V175, V178, V181: each request appends that word and no other, its
encoding is that word, and the word decodes to it. They meet the hypotheses of
MultiplyDividePredicatedFollowTheirRules on its accepting side. -/
theorem test_words_MultiplyDividePredicated :
    ([(.mulPred 64 31 ⟨7, 1⟩ 31 30, 0x04D01FDF),
      (.smulhPred 64 31 ⟨7, 1⟩ 31 30, 0x04D21FDF),
      (.umulhPred 64 31 ⟨7, 1⟩ 31 30, 0x04D31FDF),
      (.sdivPred 64 31 ⟨7, 1⟩ 31 30, 0x04D41FDF),
      (.udivPred 64 31 ⟨7, 1⟩ 31 30, 0x04D51FDF),
      (.sdivrPred 64 31 ⟨7, 1⟩ 31 30, 0x04D61FDF),
      (.udivrPred 64 31 ⟨7, 1⟩ 31 30, 0x04D71FDF)] : List (Instr × Word)).all accepted = true := by decide +kernel

/-- Each `require` line of the rules failing first, at the ends of its range: the cause and the value of
R601. They meet the hypotheses of MultiplyDividePredicatedFollowTheirRules on its raising side. -/
theorem test_raises_MultiplyDividePredicated :
    ([(.sdivPred 128 0 ⟨0, 1⟩ 0 1, .elementSize, 128),
      (.sdivPred 8 0 ⟨0, 1⟩ 0 1, .elementSize, 8),
      (.sdivPred 32 0 ⟨8, 1⟩ 0 1, .operandRange, 8),
      (.sdivPred 32 0 ⟨0, 2⟩ 0 1, .operandRange, 2),
      (.sdivPred 32 0 ⟨0, 1⟩ 1 1, .aliasing, 0)] : List (Instr × Cause × ReqInt)).all raised = true := by decide +kernel

/-- Spec vectors V184, V187, V190, V193, V196, V199, V202, V205, V208: each request appends that word and no
other, its encoding is that word, and the word decodes to it. They meet the hypotheses of
ReductionsFollowTheirRules on its accepting side. -/
theorem test_words_Reductions :
    ([(.saddv 32 31 ⟨7, 0⟩ 30, 0x04803FDF),
      (.uaddv 64 31 ⟨7, 0⟩ 30, 0x04C13FDF),
      (.smaxv 64 31 ⟨7, 0⟩ 30, 0x04C83FDF),
      (.umaxv 64 31 ⟨7, 0⟩ 30, 0x04C93FDF),
      (.sminv 64 31 ⟨7, 0⟩ 30, 0x04CA3FDF),
      (.uminv 64 31 ⟨7, 0⟩ 30, 0x04CB3FDF),
      (.orv 64 31 ⟨7, 0⟩ 30, 0x04D83FDF),
      (.eorv 64 31 ⟨7, 0⟩ 30, 0x04D93FDF),
      (.andv 64 31 ⟨7, 0⟩ 30, 0x04DA3FDF)] : List (Instr × Word)).all accepted = true := by decide +kernel

/-- Each `require` line of the rules failing first, at the ends of its range: the cause and the value of
R601. They meet the hypotheses of ReductionsFollowTheirRules on its raising side. -/
theorem test_raises_Reductions :
    ([(.saddv 128 0 ⟨0, 0⟩ 1, .elementSize, 128),
      (.saddv 32 0 ⟨8, 0⟩ 1, .operandRange, 8),
      (.saddv 32 0 ⟨0, 2⟩ 1, .operandRange, 2),
      (.uaddv 128 0 ⟨0, 0⟩ 1, .elementSize, 128),
      (.uaddv 32 0 ⟨8, 0⟩ 1, .operandRange, 8),
      (.uaddv 32 0 ⟨0, 2⟩ 1, .operandRange, 2)] : List (Instr × Cause × ReqInt)).all raised = true := by decide +kernel

/-- Spec vectors V211, V214, V217, V220, V223, V226, V229, V232, V235, V238: each request appends that word
and no other, its encoding is that word, and the word decodes to it. They meet the hypotheses of
PredicateLogicalFollowTheirRules on its accepting side. -/
theorem test_words_PredicateLogical :
    ([(.andP 15 ⟨15, 2⟩ 14 13, 0x250D7DCF),
      (.bicP 15 ⟨15, 2⟩ 14 13, 0x250D7DDF),
      (.eorP 15 ⟨15, 2⟩ 14 13, 0x250D7FCF),
      (.selP 15 ⟨15, 0⟩ 14 13, 0x250D7FDF),
      (.orrP 15 ⟨15, 2⟩ 14 13, 0x258D7DCF),
      (.ornP 15 ⟨15, 2⟩ 14 13, 0x258D7DDF),
      (.norP 15 ⟨15, 2⟩ 14 13, 0x258D7FCF),
      (.nandP 15 ⟨15, 2⟩ 14 13, 0x258D7FDF),
      (.andsP 15 ⟨15, 2⟩ 14 13, 0x254D7DCF),
      (.bicsP 15 ⟨15, 2⟩ 14 13, 0x254D7DDF)] : List (Instr × Word)).all accepted = true := by decide +kernel

/-- Each `require` line of the rules failing first, at the ends of its range: the cause and the value of
R601. They meet the hypotheses of PredicateLogicalFollowTheirRules on its raising side. -/
theorem test_raises_PredicateLogical :
    ([(.andP 0 ⟨0, 1⟩ 1 2, .operandRange, 1),
      (.selP 0 ⟨0, 2⟩ 1 2, .operandRange, 2)] : List (Instr × Cause × ReqInt)).all raised = true := by decide +kernel

/-- Spec vectors V241, V244, V247, V250, V253, V256, V259, V262, V265: each request appends that word and no
other, its encoding is that word, and the word decodes to it. They meet the hypotheses of
PredicateLogicalRestAndPropagatingBreaksFollowTheirRules on its accepting side. -/
theorem test_words_PredicateLogicalRestAndPropagatingBreaks :
    ([(.eorsP 15 ⟨15, 2⟩ 14 13, 0x254D7FCF),
      (.orrsP 15 ⟨15, 2⟩ 14 13, 0x25CD7DCF),
      (.ornsP 15 ⟨15, 2⟩ 14 13, 0x25CD7DDF),
      (.norsP 15 ⟨15, 2⟩ 14 13, 0x25CD7FCF),
      (.nandsP 15 ⟨15, 2⟩ 14 13, 0x25CD7FDF),
      (.brkpa 15 ⟨15, 2⟩ 14 13, 0x250DFDCF),
      (.brkpb 15 ⟨15, 2⟩ 14 13, 0x250DFDDF),
      (.brkpas 15 ⟨15, 2⟩ 14 13, 0x254DFDCF),
      (.brkpbs 15 ⟨15, 2⟩ 14 13, 0x254DFDDF)] : List (Instr × Word)).all accepted = true := by decide +kernel

/-- Spec vectors V268, V271, V274, V277, V280, V283: each request appends that word and no other, its
encoding is that word, and the word decodes to it. They meet the hypotheses of
PartitionBreaksFollowTheirRules on its accepting side. -/
theorem test_words_PartitionBreaks :
    ([(.brka 15 ⟨15, 1⟩ 14, 0x25107DDF),
      (.brkas 15 ⟨15, 2⟩ 14, 0x25507DCF),
      (.brkb 15 ⟨15, 1⟩ 14, 0x25907DDF),
      (.brkbs 15 ⟨15, 2⟩ 14, 0x25D07DCF),
      (.brkn 15 ⟨15, 2⟩ 14 15, 0x25187DCF),
      (.brkns 15 ⟨15, 2⟩ 14 15, 0x25587DCF)] : List (Instr × Word)).all accepted = true := by decide +kernel

/-- Each `require` line of the rules failing first, at the ends of its range: the cause and the value of
R601. They meet the hypotheses of PartitionBreaksFollowTheirRules on its raising side. -/
theorem test_raises_PartitionBreaks :
    ([(.brka 0 ⟨1, 0⟩ 2, .operandRange, 0),
      (.brkas 0 ⟨1, 1⟩ 2, .operandRange, 1),
      (.brkn 0 ⟨1, 1⟩ 2 0, .operandRange, 1),
      (.brkn 0 ⟨1, 2⟩ 2 1, .aliasing, 0)] : List (Instr × Cause × ReqInt)).all raised = true := by decide +kernel

/-- Spec vectors V286, V289, V292, V294, V297, V300, V303, V305, V308, V310, V312: each request appends that
word and no other, its encoding is that word, and the word decodes to it. They meet the hypotheses of
PredicateMiscellaneousFollowTheirRules on its accepting side. -/
theorem test_words_PredicateMiscellaneous :
    ([(.ptrue 64 15 0, 0x25D8E00F),
      (.ptrues 64 15 0, 0x25D9E00F),
      (.pfalse 15, 0x2518E40F),
      (.ptest ⟨15, 0⟩ 14, 0x2550FDC0),
      (.pfirst 15 ⟨14, 0⟩ 15, 0x2558C1CF),
      (.pnext 64 15 ⟨14, 0⟩ 15, 0x25D9C5CF),
      (.rdffrUnpred 15, 0x2519F00F),
      (.rdffrPred 15 ⟨15, 2⟩, 0x2518F1EF),
      (.rdffrsPred 15 ⟨15, 2⟩, 0x2558F1EF),
      (.setffr, 0x252C9000),
      (.wrffr 15, 0x252891E0)] : List (Instr × Word)).all accepted = true := by decide +kernel

/-- Each `require` line of the rules failing first, at the ends of its range: the cause and the value of
R601. They meet the hypotheses of PredicateMiscellaneousFollowTheirRules on its raising side. -/
theorem test_raises_PredicateMiscellaneous :
    ([(.ptrue 128 0 31, .elementSize, 128),
      (.ptrue 8 0 32, .immediateRange, 32),
      (.ptrue 8 0 (-1), .immediateRange, (-1)),
      (.ptest ⟨0, 2⟩ 1, .operandRange, 2),
      (.pfirst 0 ⟨1, 2⟩ 0, .operandRange, 2),
      (.pfirst 0 ⟨1, 0⟩ 1, .aliasing, 0),
      (.pnext 128 0 ⟨1, 0⟩ 0, .elementSize, 128),
      (.pnext 32 0 ⟨1, 2⟩ 0, .operandRange, 2),
      (.pnext 32 0 ⟨1, 0⟩ 1, .aliasing, 0),
      (.rdffrPred 0 ⟨1, 1⟩, .operandRange, 1)] : List (Instr × Cause × ReqInt)).all raised = true := by decide +kernel

/-- Spec vectors V314, V320, V326, V332, V338, V344, V350, V356, V362, V368, V374: each request appends that
word and no other, its encoding is that word, and the word decodes to it. They meet the hypotheses of
ContiguousScalarIndexFollowTheirRules on its accepting side. -/
theorem test_words_ContiguousScalarIndex :
    ([(.ld1bSs 8 31 ⟨7, 2⟩ 31 30, 0xA41E5FFF),
      (.ld1swSs 64 31 ⟨7, 2⟩ 31 30, 0xA49E5FFF),
      (.ld1hSs 16 31 ⟨7, 2⟩ 31 30, 0xA4BE5FFF),
      (.ld1shSs 32 31 ⟨7, 2⟩ 31 30, 0xA53E5FFF),
      (.ld1wSs 32 31 ⟨7, 2⟩ 31 30, 0xA55E5FFF),
      (.ld1sbSs 16 31 ⟨7, 2⟩ 31 30, 0xA5DE5FFF),
      (.ld1dSs 64 31 ⟨7, 2⟩ 31 30, 0xA5FE5FFF),
      (.st1bSs 8 31 ⟨7, 0⟩ 31 30, 0xE41E5FFF),
      (.st1hSs 16 31 ⟨7, 0⟩ 31 30, 0xE4BE5FFF),
      (.st1wSs 32 31 ⟨7, 0⟩ 31 30, 0xE55E5FFF),
      (.st1dSs 64 31 ⟨7, 0⟩ 31 30, 0xE5FE5FFF)] : List (Instr × Word)).all accepted = true := by decide +kernel

/-- Each `require` line of the rules failing first, at the ends of its range: the cause and the value of
R601. They meet the hypotheses of ContiguousScalarIndexFollowTheirRules on its raising side. -/
theorem test_raises_ContiguousScalarIndex :
    ([(.ld1bSs 128 0 ⟨0, 2⟩ 0 1, .elementSize, 128),
      (.ld1bSs 64 0 ⟨8, 2⟩ 0 1, .operandRange, 8),
      (.ld1bSs 64 0 ⟨0, 1⟩ 0 1, .operandRange, 1),
      (.ld1swSs 128 0 ⟨0, 2⟩ 0 1, .elementSize, 128),
      (.ld1swSs 8 0 ⟨0, 2⟩ 0 1, .elementSize, 8),
      (.ld1swSs 64 0 ⟨8, 2⟩ 0 1, .operandRange, 8),
      (.ld1swSs 64 0 ⟨0, 1⟩ 0 1, .operandRange, 1),
      (.ld1hSs 128 0 ⟨0, 2⟩ 0 1, .elementSize, 128),
      (.ld1hSs 8 0 ⟨0, 2⟩ 0 1, .elementSize, 8),
      (.ld1hSs 64 0 ⟨8, 2⟩ 0 1, .operandRange, 8),
      (.ld1hSs 64 0 ⟨0, 1⟩ 0 1, .operandRange, 1),
      (.ld1shSs 128 0 ⟨0, 2⟩ 0 1, .elementSize, 128),
      (.ld1shSs 8 0 ⟨0, 2⟩ 0 1, .elementSize, 8),
      (.ld1shSs 64 0 ⟨8, 2⟩ 0 1, .operandRange, 8),
      (.ld1shSs 64 0 ⟨0, 1⟩ 0 1, .operandRange, 1),
      (.st1bSs 128 0 ⟨0, 0⟩ 0 1, .elementSize, 128),
      (.st1bSs 64 0 ⟨8, 0⟩ 0 1, .operandRange, 8),
      (.st1bSs 64 0 ⟨0, 2⟩ 0 1, .operandRange, 2),
      (.st1hSs 128 0 ⟨0, 0⟩ 0 1, .elementSize, 128),
      (.st1hSs 8 0 ⟨0, 0⟩ 0 1, .elementSize, 8),
      (.st1hSs 64 0 ⟨8, 0⟩ 0 1, .operandRange, 8),
      (.st1hSs 64 0 ⟨0, 2⟩ 0 1, .operandRange, 2),
      (.st1wSs 128 0 ⟨0, 0⟩ 0 1, .elementSize, 128),
      (.st1wSs 8 0 ⟨0, 0⟩ 0 1, .elementSize, 8),
      (.st1wSs 64 0 ⟨8, 0⟩ 0 1, .operandRange, 8),
      (.st1wSs 64 0 ⟨0, 2⟩ 0 1, .operandRange, 2),
      (.st1dSs 128 0 ⟨0, 0⟩ 0 1, .elementSize, 128),
      (.st1dSs 8 0 ⟨0, 0⟩ 0 1, .elementSize, 8),
      (.st1dSs 64 0 ⟨8, 0⟩ 0 1, .operandRange, 8),
      (.st1dSs 64 0 ⟨0, 2⟩ 0 1, .operandRange, 2)] : List (Instr × Cause × ReqInt)).all raised = true := by decide +kernel

/-- Spec vectors V317, V323, V329, V335, V341, V347, V353, V359, V365, V371, V377: each request appends that
word and no other, its encoding is that word, and the word decodes to it. They meet the hypotheses of
ContiguousImmediateFollowTheirRules on its accepting side. -/
theorem test_words_ContiguousImmediate :
    ([(.ld1bSi 8 31 ⟨7, 2⟩ 31 (-8), 0xA408BFFF),
      (.ld1swSi 64 31 ⟨7, 2⟩ 31 (-8), 0xA488BFFF),
      (.ld1hSi 16 31 ⟨7, 2⟩ 31 (-8), 0xA4A8BFFF),
      (.ld1shSi 32 31 ⟨7, 2⟩ 31 (-8), 0xA528BFFF),
      (.ld1wSi 32 31 ⟨7, 2⟩ 31 (-8), 0xA548BFFF),
      (.ld1sbSi 16 31 ⟨7, 2⟩ 31 (-8), 0xA5C8BFFF),
      (.ld1dSi 64 31 ⟨7, 2⟩ 31 (-8), 0xA5E8BFFF),
      (.st1bSi 8 31 ⟨7, 0⟩ 31 7, 0xE407FFFF),
      (.st1hSi 16 31 ⟨7, 0⟩ 31 7, 0xE4A7FFFF),
      (.st1wSi 32 31 ⟨7, 0⟩ 31 7, 0xE547FFFF),
      (.st1dSi 64 31 ⟨7, 0⟩ 31 7, 0xE5E7FFFF)] : List (Instr × Word)).all accepted = true := by decide +kernel

/-- Each `require` line of the rules failing first, at the ends of its range: the cause and the value of
R601. They meet the hypotheses of ContiguousImmediateFollowTheirRules on its raising side. -/
theorem test_raises_ContiguousImmediate :
    ([(.ld1bSi 128 0 ⟨0, 2⟩ 0 0, .elementSize, 128),
      (.ld1bSi 64 0 ⟨8, 2⟩ 0 0, .operandRange, 8),
      (.ld1bSi 64 0 ⟨0, 1⟩ 0 0, .operandRange, 1),
      (.ld1bSi 64 0 ⟨0, 2⟩ 0 8, .immediateRange, 8),
      (.ld1bSi 64 0 ⟨0, 2⟩ 0 (-9), .immediateRange, (-9)),
      (.ld1swSi 128 0 ⟨0, 2⟩ 0 0, .elementSize, 128),
      (.ld1swSi 8 0 ⟨0, 2⟩ 0 0, .elementSize, 8),
      (.ld1swSi 64 0 ⟨8, 2⟩ 0 0, .operandRange, 8),
      (.ld1swSi 64 0 ⟨0, 1⟩ 0 0, .operandRange, 1),
      (.ld1swSi 64 0 ⟨0, 2⟩ 0 8, .immediateRange, 8),
      (.ld1swSi 64 0 ⟨0, 2⟩ 0 (-9), .immediateRange, (-9)),
      (.ld1hSi 128 0 ⟨0, 2⟩ 0 0, .elementSize, 128),
      (.ld1hSi 8 0 ⟨0, 2⟩ 0 0, .elementSize, 8),
      (.ld1hSi 64 0 ⟨8, 2⟩ 0 0, .operandRange, 8),
      (.ld1hSi 64 0 ⟨0, 1⟩ 0 0, .operandRange, 1),
      (.ld1hSi 64 0 ⟨0, 2⟩ 0 8, .immediateRange, 8),
      (.ld1hSi 64 0 ⟨0, 2⟩ 0 (-9), .immediateRange, (-9)),
      (.ld1shSi 128 0 ⟨0, 2⟩ 0 0, .elementSize, 128),
      (.ld1shSi 8 0 ⟨0, 2⟩ 0 0, .elementSize, 8),
      (.ld1shSi 64 0 ⟨8, 2⟩ 0 0, .operandRange, 8),
      (.ld1shSi 64 0 ⟨0, 1⟩ 0 0, .operandRange, 1),
      (.ld1shSi 64 0 ⟨0, 2⟩ 0 8, .immediateRange, 8),
      (.ld1shSi 64 0 ⟨0, 2⟩ 0 (-9), .immediateRange, (-9)),
      (.st1bSi 128 0 ⟨0, 0⟩ 0 0, .elementSize, 128),
      (.st1bSi 64 0 ⟨8, 0⟩ 0 0, .operandRange, 8),
      (.st1bSi 64 0 ⟨0, 2⟩ 0 0, .operandRange, 2),
      (.st1bSi 64 0 ⟨0, 0⟩ 0 8, .immediateRange, 8),
      (.st1bSi 64 0 ⟨0, 0⟩ 0 (-9), .immediateRange, (-9)),
      (.st1hSi 128 0 ⟨0, 0⟩ 0 0, .elementSize, 128),
      (.st1hSi 8 0 ⟨0, 0⟩ 0 0, .elementSize, 8),
      (.st1hSi 64 0 ⟨8, 0⟩ 0 0, .operandRange, 8),
      (.st1hSi 64 0 ⟨0, 2⟩ 0 0, .operandRange, 2),
      (.st1hSi 64 0 ⟨0, 0⟩ 0 8, .immediateRange, 8),
      (.st1hSi 64 0 ⟨0, 0⟩ 0 (-9), .immediateRange, (-9)),
      (.st1wSi 128 0 ⟨0, 0⟩ 0 0, .elementSize, 128),
      (.st1wSi 8 0 ⟨0, 0⟩ 0 0, .elementSize, 8),
      (.st1wSi 64 0 ⟨8, 0⟩ 0 0, .operandRange, 8),
      (.st1wSi 64 0 ⟨0, 2⟩ 0 0, .operandRange, 2),
      (.st1wSi 64 0 ⟨0, 0⟩ 0 8, .immediateRange, 8),
      (.st1wSi 64 0 ⟨0, 0⟩ 0 (-9), .immediateRange, (-9)),
      (.st1dSi 128 0 ⟨0, 0⟩ 0 0, .elementSize, 128),
      (.st1dSi 8 0 ⟨0, 0⟩ 0 0, .elementSize, 8),
      (.st1dSi 64 0 ⟨8, 0⟩ 0 0, .operandRange, 8),
      (.st1dSi 64 0 ⟨0, 2⟩ 0 0, .operandRange, 2),
      (.st1dSi 64 0 ⟨0, 0⟩ 0 8, .immediateRange, 8),
      (.st1dSi 64 0 ⟨0, 0⟩ 0 (-9), .immediateRange, (-9))] : List (Instr × Cause × ReqInt)).all raised = true := by decide +kernel

/-- Spec vectors V380, V386, V392, V398, V404, V410, V416, V422, V428, V434, V440, V446: each request
appends that word and no other, its encoding is that word, and the word decodes to it. They meet the
hypotheses of StructureLoadsScalarIndexFollowTheirRules on its accepting side. -/
theorem test_words_StructureLoadsScalarIndex :
    ([(.ld2bSs 31 0 ⟨7, 2⟩ 31 30, 0xA43EDFFF),
      (.ld2hSs 31 0 ⟨7, 2⟩ 31 30, 0xA4BEDFFF),
      (.ld2wSs 31 0 ⟨7, 2⟩ 31 30, 0xA53EDFFF),
      (.ld2dSs 31 0 ⟨7, 2⟩ 31 30, 0xA5BEDFFF),
      (.ld3bSs 31 0 1 ⟨7, 2⟩ 31 30, 0xA45EDFFF),
      (.ld3hSs 31 0 1 ⟨7, 2⟩ 31 30, 0xA4DEDFFF),
      (.ld3wSs 31 0 1 ⟨7, 2⟩ 31 30, 0xA55EDFFF),
      (.ld3dSs 31 0 1 ⟨7, 2⟩ 31 30, 0xA5DEDFFF),
      (.ld4bSs 31 0 1 2 ⟨7, 2⟩ 31 30, 0xA47EDFFF),
      (.ld4hSs 31 0 1 2 ⟨7, 2⟩ 31 30, 0xA4FEDFFF),
      (.ld4wSs 31 0 1 2 ⟨7, 2⟩ 31 30, 0xA57EDFFF),
      (.ld4dSs 31 0 1 2 ⟨7, 2⟩ 31 30, 0xA5FEDFFF)] : List (Instr × Word)).all accepted = true := by decide +kernel

/-- Each `require` line of the rules failing first, at the ends of its range: the cause and the value of
R601. They meet the hypotheses of StructureLoadsScalarIndexFollowTheirRules on its raising side. -/
theorem test_raises_StructureLoadsScalarIndex :
    ([(.ld2bSs 0 1 ⟨8, 2⟩ 0 1, .operandRange, 8),
      (.ld2bSs 0 1 ⟨0, 1⟩ 0 1, .operandRange, 1),
      (.ld2bSs 0 2 ⟨0, 2⟩ 0 1, .aliasing, 0),
      (.ld3bSs 0 1 2 ⟨8, 2⟩ 0 1, .operandRange, 8),
      (.ld3bSs 0 1 2 ⟨0, 1⟩ 0 1, .operandRange, 1),
      (.ld3bSs 0 1 3 ⟨0, 2⟩ 0 1, .aliasing, 0),
      (.ld4bSs 0 1 2 3 ⟨8, 2⟩ 0 1, .operandRange, 8),
      (.ld4bSs 0 1 2 3 ⟨0, 1⟩ 0 1, .operandRange, 1),
      (.ld4bSs 0 1 2 4 ⟨0, 2⟩ 0 1, .aliasing, 0)] : List (Instr × Cause × ReqInt)).all raised = true := by decide +kernel

/-- Spec vectors V383, V389, V395, V401, V407, V413, V419, V425, V431, V437, V443, V449: each request
appends that word and no other, its encoding is that word, and the word decodes to it. They meet the
hypotheses of StructureLoadsImmediateFollowTheirRules on its accepting side. -/
theorem test_words_StructureLoadsImmediate :
    ([(.ld2bSi 31 0 ⟨7, 2⟩ 31 (-16), 0xA428FFFF),
      (.ld2hSi 31 0 ⟨7, 2⟩ 31 (-16), 0xA4A8FFFF),
      (.ld2wSi 31 0 ⟨7, 2⟩ 31 (-16), 0xA528FFFF),
      (.ld2dSi 31 0 ⟨7, 2⟩ 31 (-16), 0xA5A8FFFF),
      (.ld3bSi 31 0 1 ⟨7, 2⟩ 31 (-24), 0xA448FFFF),
      (.ld3hSi 31 0 1 ⟨7, 2⟩ 31 (-24), 0xA4C8FFFF),
      (.ld3wSi 31 0 1 ⟨7, 2⟩ 31 (-24), 0xA548FFFF),
      (.ld3dSi 31 0 1 ⟨7, 2⟩ 31 (-24), 0xA5C8FFFF),
      (.ld4bSi 31 0 1 2 ⟨7, 2⟩ 31 (-32), 0xA468FFFF),
      (.ld4hSi 31 0 1 2 ⟨7, 2⟩ 31 (-32), 0xA4E8FFFF),
      (.ld4wSi 31 0 1 2 ⟨7, 2⟩ 31 (-32), 0xA568FFFF),
      (.ld4dSi 31 0 1 2 ⟨7, 2⟩ 31 (-32), 0xA5E8FFFF)] : List (Instr × Word)).all accepted = true := by decide +kernel

/-- Each `require` line of the rules failing first, at the ends of its range: the cause and the value of
R601. They meet the hypotheses of StructureLoadsImmediateFollowTheirRules on its raising side. -/
theorem test_raises_StructureLoadsImmediate :
    ([(.ld2bSi 0 1 ⟨8, 2⟩ 0 2, .operandRange, 8),
      (.ld2bSi 0 1 ⟨0, 1⟩ 0 2, .operandRange, 1),
      (.ld2bSi 0 1 ⟨0, 2⟩ 0 15, .immediateRange, 15),
      (.ld2bSi 0 1 ⟨0, 2⟩ 0 (-17), .immediateRange, (-17)),
      (.ld2bSi 0 2 ⟨0, 2⟩ 0 2, .aliasing, 0),
      (.ld2bSi 0 1 ⟨0, 2⟩ 0 1, .immediateRange, 1),
      (.ld3bSi 0 1 2 ⟨8, 2⟩ 0 3, .operandRange, 8),
      (.ld3bSi 0 1 2 ⟨0, 1⟩ 0 3, .operandRange, 1),
      (.ld3bSi 0 1 2 ⟨0, 2⟩ 0 22, .immediateRange, 22),
      (.ld3bSi 0 1 2 ⟨0, 2⟩ 0 (-25), .immediateRange, (-25)),
      (.ld3bSi 0 1 3 ⟨0, 2⟩ 0 3, .aliasing, 0),
      (.ld3bSi 0 1 2 ⟨0, 2⟩ 0 1, .immediateRange, 1),
      (.ld4bSi 0 1 2 3 ⟨8, 2⟩ 0 4, .operandRange, 8),
      (.ld4bSi 0 1 2 3 ⟨0, 1⟩ 0 4, .operandRange, 1),
      (.ld4bSi 0 1 2 3 ⟨0, 2⟩ 0 29, .immediateRange, 29),
      (.ld4bSi 0 1 2 3 ⟨0, 2⟩ 0 (-33), .immediateRange, (-33)),
      (.ld4bSi 0 1 2 4 ⟨0, 2⟩ 0 4, .aliasing, 0),
      (.ld4bSi 0 1 2 3 ⟨0, 2⟩ 0 1, .immediateRange, 1)] : List (Instr × Cause × ReqInt)).all raised = true := by decide +kernel

/-- Spec vectors V452, V458, V464, V470, V476, V482, V488, V494, V500, V506, V512, V518: each request
appends that word and no other, its encoding is that word, and the word decodes to it. They meet the
hypotheses of StructureStoresScalarIndexFollowTheirRules on its accepting side. -/
theorem test_words_StructureStoresScalarIndex :
    ([(.st2bSs 31 0 ⟨7, 0⟩ 31 30, 0xE43E7FFF),
      (.st2hSs 31 0 ⟨7, 0⟩ 31 30, 0xE4BE7FFF),
      (.st2wSs 31 0 ⟨7, 0⟩ 31 30, 0xE53E7FFF),
      (.st2dSs 31 0 ⟨7, 0⟩ 31 30, 0xE5BE7FFF),
      (.st3bSs 31 0 1 ⟨7, 0⟩ 31 30, 0xE45E7FFF),
      (.st3hSs 31 0 1 ⟨7, 0⟩ 31 30, 0xE4DE7FFF),
      (.st3wSs 31 0 1 ⟨7, 0⟩ 31 30, 0xE55E7FFF),
      (.st3dSs 31 0 1 ⟨7, 0⟩ 31 30, 0xE5DE7FFF),
      (.st4bSs 31 0 1 2 ⟨7, 0⟩ 31 30, 0xE47E7FFF),
      (.st4hSs 31 0 1 2 ⟨7, 0⟩ 31 30, 0xE4FE7FFF),
      (.st4wSs 31 0 1 2 ⟨7, 0⟩ 31 30, 0xE57E7FFF),
      (.st4dSs 31 0 1 2 ⟨7, 0⟩ 31 30, 0xE5FE7FFF)] : List (Instr × Word)).all accepted = true := by decide +kernel

/-- Each `require` line of the rules failing first, at the ends of its range: the cause and the value of
R601. They meet the hypotheses of StructureStoresScalarIndexFollowTheirRules on its raising side. -/
theorem test_raises_StructureStoresScalarIndex :
    ([(.st2bSs 0 1 ⟨8, 0⟩ 0 1, .operandRange, 8),
      (.st2bSs 0 1 ⟨0, 2⟩ 0 1, .operandRange, 2),
      (.st2bSs 0 2 ⟨0, 0⟩ 0 1, .aliasing, 0),
      (.st3bSs 0 1 2 ⟨8, 0⟩ 0 1, .operandRange, 8),
      (.st3bSs 0 1 2 ⟨0, 2⟩ 0 1, .operandRange, 2),
      (.st3bSs 0 1 3 ⟨0, 0⟩ 0 1, .aliasing, 0),
      (.st4bSs 0 1 2 3 ⟨8, 0⟩ 0 1, .operandRange, 8),
      (.st4bSs 0 1 2 3 ⟨0, 2⟩ 0 1, .operandRange, 2),
      (.st4bSs 0 1 2 4 ⟨0, 0⟩ 0 1, .aliasing, 0)] : List (Instr × Cause × ReqInt)).all raised = true := by decide +kernel

/-- Spec vectors V455, V461, V467, V473, V479, V485, V491, V497, V503, V509, V515, V521: each request
appends that word and no other, its encoding is that word, and the word decodes to it. They meet the
hypotheses of StructureStoresImmediateFollowTheirRules on its accepting side. -/
theorem test_words_StructureStoresImmediate :
    ([(.st2bSi 31 0 ⟨7, 0⟩ 31 (-16), 0xE438FFFF),
      (.st2hSi 31 0 ⟨7, 0⟩ 31 (-16), 0xE4B8FFFF),
      (.st2wSi 31 0 ⟨7, 0⟩ 31 (-16), 0xE538FFFF),
      (.st2dSi 31 0 ⟨7, 0⟩ 31 (-16), 0xE5B8FFFF),
      (.st3bSi 31 0 1 ⟨7, 0⟩ 31 (-24), 0xE458FFFF),
      (.st3hSi 31 0 1 ⟨7, 0⟩ 31 (-24), 0xE4D8FFFF),
      (.st3wSi 31 0 1 ⟨7, 0⟩ 31 (-24), 0xE558FFFF),
      (.st3dSi 31 0 1 ⟨7, 0⟩ 31 (-24), 0xE5D8FFFF),
      (.st4bSi 31 0 1 2 ⟨7, 0⟩ 31 (-32), 0xE478FFFF),
      (.st4hSi 31 0 1 2 ⟨7, 0⟩ 31 (-32), 0xE4F8FFFF),
      (.st4wSi 31 0 1 2 ⟨7, 0⟩ 31 (-32), 0xE578FFFF),
      (.st4dSi 31 0 1 2 ⟨7, 0⟩ 31 (-32), 0xE5F8FFFF)] : List (Instr × Word)).all accepted = true := by decide +kernel

/-- Each `require` line of the rules failing first, at the ends of its range: the cause and the value of
R601. They meet the hypotheses of StructureStoresImmediateFollowTheirRules on its raising side. -/
theorem test_raises_StructureStoresImmediate :
    ([(.st2bSi 0 1 ⟨8, 0⟩ 0 2, .operandRange, 8),
      (.st2bSi 0 1 ⟨0, 2⟩ 0 2, .operandRange, 2),
      (.st2bSi 0 1 ⟨0, 0⟩ 0 15, .immediateRange, 15),
      (.st2bSi 0 1 ⟨0, 0⟩ 0 (-17), .immediateRange, (-17)),
      (.st2bSi 0 2 ⟨0, 0⟩ 0 2, .aliasing, 0),
      (.st2bSi 0 1 ⟨0, 0⟩ 0 1, .immediateRange, 1),
      (.st3bSi 0 1 2 ⟨8, 0⟩ 0 3, .operandRange, 8),
      (.st3bSi 0 1 2 ⟨0, 2⟩ 0 3, .operandRange, 2),
      (.st3bSi 0 1 2 ⟨0, 0⟩ 0 22, .immediateRange, 22),
      (.st3bSi 0 1 2 ⟨0, 0⟩ 0 (-25), .immediateRange, (-25)),
      (.st3bSi 0 1 3 ⟨0, 0⟩ 0 3, .aliasing, 0),
      (.st3bSi 0 1 2 ⟨0, 0⟩ 0 1, .immediateRange, 1),
      (.st4bSi 0 1 2 3 ⟨8, 0⟩ 0 4, .operandRange, 8),
      (.st4bSi 0 1 2 3 ⟨0, 2⟩ 0 4, .operandRange, 2),
      (.st4bSi 0 1 2 3 ⟨0, 0⟩ 0 29, .immediateRange, 29),
      (.st4bSi 0 1 2 3 ⟨0, 0⟩ 0 (-33), .immediateRange, (-33)),
      (.st4bSi 0 1 2 4 ⟨0, 0⟩ 0 4, .aliasing, 0),
      (.st4bSi 0 1 2 3 ⟨0, 0⟩ 0 1, .immediateRange, 1)] : List (Instr × Cause × ReqInt)).all raised = true := by decide +kernel

/-- Spec vectors V524, V527, V530, V533, V536, V539, V542, V545, V548, V551, V554, V557: each request
appends that word and no other, its encoding is that word, and the word decodes to it. They meet the
hypotheses of ShiftByImmediateFollowTheirRules on its accepting side. -/
theorem test_words_ShiftByImmediate :
    ([(.asrImmPred 64 31 ⟨7, 1⟩ 31 64, 0x04809C1F),
      (.lsrImmPred 64 31 ⟨7, 1⟩ 31 64, 0x04819C1F),
      (.lslImmPred 64 31 ⟨7, 1⟩ 31 63, 0x04C39FFF),
      (.asrdImmPred 64 31 ⟨7, 1⟩ 31 64, 0x04849C1F),
      (.sqshlImmPred 64 31 ⟨7, 1⟩ 31 63, 0x04C69FFF),
      (.uqshlImmPred 64 31 ⟨7, 1⟩ 31 63, 0x04C79FFF),
      (.srshrImmPred 64 31 ⟨7, 1⟩ 31 64, 0x048C9C1F),
      (.urshrImmPred 64 31 ⟨7, 1⟩ 31 64, 0x048D9C1F),
      (.sqshluImmPred 64 31 ⟨7, 1⟩ 31 63, 0x04CF9FFF),
      (.asrImmUnpred 8 31 30 8, 0x042893DF),
      (.lsrImmUnpred 8 31 30 8, 0x042897DF),
      (.lslImmUnpred 8 31 30 7, 0x042F9FDF)] : List (Instr × Word)).all accepted = true := by decide +kernel

/-- Each `require` line of the rules failing first, at the ends of its range: the cause and the value of
R601. They meet the hypotheses of ShiftByImmediateFollowTheirRules on its raising side. -/
theorem test_raises_ShiftByImmediate :
    ([(.asrImmPred 128 0 ⟨0, 1⟩ 0 1, .elementSize, 128),
      (.asrImmPred 32 0 ⟨8, 1⟩ 0 1, .operandRange, 8),
      (.asrImmPred 32 0 ⟨0, 2⟩ 0 1, .operandRange, 2),
      (.asrImmPred 32 0 ⟨0, 1⟩ 1 1, .aliasing, 0),
      (.asrImmPred 32 0 ⟨0, 1⟩ 0 0, .immediateRange, 0),
      (.asrImmPred 32 0 ⟨0, 1⟩ 0 33, .immediateRange, 33),
      (.lslImmPred 128 0 ⟨0, 1⟩ 0 1, .elementSize, 128),
      (.lslImmPred 32 0 ⟨8, 1⟩ 0 1, .operandRange, 8),
      (.lslImmPred 32 0 ⟨0, 2⟩ 0 1, .operandRange, 2),
      (.lslImmPred 32 0 ⟨0, 1⟩ 1 1, .aliasing, 0),
      (.lslImmPred 32 0 ⟨0, 1⟩ 0 (-1), .immediateRange, (-1)),
      (.lslImmPred 32 0 ⟨0, 1⟩ 0 32, .immediateRange, 32),
      (.asrImmUnpred 128 0 1 1, .elementSize, 128),
      (.asrImmUnpred 32 0 1 0, .immediateRange, 0),
      (.asrImmUnpred 32 0 1 33, .immediateRange, 33),
      (.lslImmUnpred 128 0 1 1, .elementSize, 128),
      (.lslImmUnpred 32 0 1 (-1), .immediateRange, (-1)),
      (.lslImmUnpred 32 0 1 32, .immediateRange, 32)] : List (Instr × Cause × ReqInt)).all raised = true := by decide +kernel

/-- Spec vectors V560, V563, V566, V569, V572, V575: each request appends that word and no other, its
encoding is that word, and the word decodes to it. They meet the hypotheses of
ShiftByVectorFollowTheirRules on its accepting side. -/
theorem test_words_ShiftByVector :
    ([(.asrVecPred 64 31 ⟨7, 1⟩ 31 30, 0x04D09FDF),
      (.lsrVecPred 64 31 ⟨7, 1⟩ 31 30, 0x04D19FDF),
      (.lslVecPred 64 31 ⟨7, 1⟩ 31 30, 0x04D39FDF),
      (.asrrVecPred 64 31 ⟨7, 1⟩ 31 30, 0x04D49FDF),
      (.lsrrVecPred 64 31 ⟨7, 1⟩ 31 30, 0x04D59FDF),
      (.lslrVecPred 64 31 ⟨7, 1⟩ 31 30, 0x04D79FDF)] : List (Instr × Word)).all accepted = true := by decide +kernel

/-- Spec vectors V578, V581, V584, V587, V590, V593: each request appends that word and no other, its
encoding is that word, and the word decodes to it. They meet the hypotheses of
ShiftByWideElementsFollowTheirRules on its accepting side. -/
theorem test_words_ShiftByWideElements :
    ([(.asrWidePred 32 31 ⟨7, 1⟩ 31 30, 0x04989FDF),
      (.lsrWidePred 32 31 ⟨7, 1⟩ 31 30, 0x04999FDF),
      (.lslWidePred 32 31 ⟨7, 1⟩ 31 30, 0x049B9FDF),
      (.asrWideUnpred 8 31 30 29, 0x043D83DF),
      (.lsrWideUnpred 8 31 30 29, 0x043D87DF),
      (.lslWideUnpred 8 31 30 29, 0x043D8FDF)] : List (Instr × Word)).all accepted = true := by decide +kernel

/-- Each `require` line of the rules failing first, at the ends of its range: the cause and the value of
R601. They meet the hypotheses of ShiftByWideElementsFollowTheirRules on its raising side. -/
theorem test_raises_ShiftByWideElements :
    ([(.asrWidePred 128 0 ⟨0, 1⟩ 0 1, .elementSize, 128),
      (.asrWidePred 32 0 ⟨8, 1⟩ 0 1, .operandRange, 8),
      (.asrWidePred 32 0 ⟨0, 2⟩ 0 1, .operandRange, 2),
      (.asrWidePred 32 0 ⟨0, 1⟩ 1 1, .aliasing, 0),
      (.asrWideUnpred 128 0 1 2, .elementSize, 128)] : List (Instr × Cause × ReqInt)).all raised = true := by decide +kernel

/-- Spec vectors V596, V599, V602, V605, V608, V611, V614, V617, V620, V623, V626, V629: each request
appends that word and no other, its encoding is that word, and the word decodes to it. They meet the
hypotheses of WideningFollowTheirRules on its accepting side. -/
theorem test_words_Widening :
    ([(.saddlb 64 31 30 29, 0x45DD03DF),
      (.saddlt 64 31 30 29, 0x45DD07DF),
      (.uaddlb 64 31 30 29, 0x45DD0BDF),
      (.uaddlt 64 31 30 29, 0x45DD0FDF),
      (.ssublb 64 31 30 29, 0x45DD13DF),
      (.ssublt 64 31 30 29, 0x45DD17DF),
      (.usublb 64 31 30 29, 0x45DD1BDF),
      (.usublt 64 31 30 29, 0x45DD1FDF),
      (.sabdlb 64 31 30 29, 0x45DD33DF),
      (.sabdlt 64 31 30 29, 0x45DD37DF),
      (.uabdlb 64 31 30 29, 0x45DD3BDF),
      (.uabdlt 64 31 30 29, 0x45DD3FDF)] : List (Instr × Word)).all accepted = true := by decide +kernel

/-- Each `require` line of the rules failing first, at the ends of its range: the cause and the value of
R601. They meet the hypotheses of WideningFollowTheirRules on its raising side. -/
theorem test_raises_Widening :
    ([(.saddlb 128 0 1 2, .elementSize, 128),
      (.saddlb 8 0 1 2, .elementSize, 8)] : List (Instr × Cause × ReqInt)).all raised = true := by decide +kernel

/-- Spec vectors V632, V635, V638, V641, V644, V647, V650, V653, V656, V659, V662, V665: each request
appends that word and no other, its encoding is that word, and the word decodes to it. They meet the
hypotheses of ShiftLeftLongAndNarrowHighFollowTheirRules on its accepting side. -/
theorem test_words_ShiftLeftLongAndNarrowHigh :
    ([(.sshllb 64 31 30 31, 0x455FA3DF),
      (.sshllt 64 31 30 31, 0x455FA7DF),
      (.ushllb 64 31 30 31, 0x455FABDF),
      (.ushllt 64 31 30 31, 0x455FAFDF),
      (.addhnb 32 31 30 29, 0x45FD63DF),
      (.addhnt 32 31 30 29, 0x45FD67DF),
      (.raddhnb 32 31 30 29, 0x45FD6BDF),
      (.raddhnt 32 31 30 29, 0x45FD6FDF),
      (.subhnb 32 31 30 29, 0x45FD73DF),
      (.subhnt 32 31 30 29, 0x45FD77DF),
      (.rsubhnb 32 31 30 29, 0x45FD7BDF),
      (.rsubhnt 32 31 30 29, 0x45FD7FDF)] : List (Instr × Word)).all accepted = true := by decide +kernel

/-- Each `require` line of the rules failing first, at the ends of its range: the cause and the value of
R601. They meet the hypotheses of ShiftLeftLongAndNarrowHighFollowTheirRules on its raising side. -/
theorem test_raises_ShiftLeftLongAndNarrowHigh :
    ([(.sshllb 128 0 1 0, .elementSize, 128),
      (.sshllb 8 0 1 0, .elementSize, 8),
      (.sshllb 32 0 1 (-1), .immediateRange, (-1)),
      (.sshllb 32 0 1 16, .immediateRange, 16)] : List (Instr × Cause × ReqInt)).all raised = true := by decide +kernel

/-- Spec vectors V668, V671, V674, V677, V680, V683, V686, V689: each request appends that word and no
other, its encoding is that word, and the word decodes to it. They meet the hypotheses of
ShiftRightNarrowFollowTheirRules on its accepting side. -/
theorem test_words_ShiftRightNarrow :
    ([(.sqshrunb 32 31 30 32, 0x456003DF),
      (.sqshrunt 32 31 30 32, 0x456007DF),
      (.sqrshrunb 32 31 30 32, 0x45600BDF),
      (.sqrshrunt 32 31 30 32, 0x45600FDF),
      (.shrnb 32 31 30 32, 0x456013DF),
      (.shrnt 32 31 30 32, 0x456017DF),
      (.rshrnb 32 31 30 32, 0x45601BDF),
      (.rshrnt 32 31 30 32, 0x45601FDF)] : List (Instr × Word)).all accepted = true := by decide +kernel

/-- Each `require` line of the rules failing first, at the ends of its range: the cause and the value of
R601. They meet the hypotheses of ShiftRightNarrowFollowTheirRules on its raising side. -/
theorem test_raises_ShiftRightNarrow :
    ([(.sqshrunb 128 0 1 1, .elementSize, 128),
      (.sqshrunb 8 0 1 0, .immediateRange, 0),
      (.sqshrunb 8 0 1 9, .immediateRange, 9)] : List (Instr × Cause × ReqInt)).all raised = true := by decide +kernel

/-- Spec vectors V692, V695, V698, V701, V704, V707, V710, V713: each request appends that word and no
other, its encoding is that word, and the word decodes to it. They meet the hypotheses of
ShiftRightNarrowRestFollowTheirRules on its accepting side. -/
theorem test_words_ShiftRightNarrowRest :
    ([(.sqshrnb 32 31 30 32, 0x456023DF),
      (.sqshrnt 32 31 30 32, 0x456027DF),
      (.sqrshrnb 32 31 30 32, 0x45602BDF),
      (.sqrshrnt 32 31 30 32, 0x45602FDF),
      (.uqshrnb 32 31 30 32, 0x456033DF),
      (.uqshrnt 32 31 30 32, 0x456037DF),
      (.uqrshrnb 32 31 30 32, 0x45603BDF),
      (.uqrshrnt 32 31 30 32, 0x45603FDF)] : List (Instr × Word)).all accepted = true := by decide +kernel

/-- Spec vectors V716, V719, V722, V725, V728, V731: each request appends that word and no other, its
encoding is that word, and the word decodes to it. They meet the hypotheses of
ShiftAccumulateAndInsertFollowTheirRules on its accepting side. -/
theorem test_words_ShiftAccumulateAndInsert :
    ([(.ssra 64 31 30 64, 0x4580E3DF),
      (.usra 64 31 30 64, 0x4580E7DF),
      (.srsra 64 31 30 64, 0x4580EBDF),
      (.ursra 64 31 30 64, 0x4580EFDF),
      (.sri 8 31 30 8, 0x4508F3DF),
      (.sli 8 31 30 7, 0x450FF7DF)] : List (Instr × Word)).all accepted = true := by decide +kernel

/-- Each `require` line of the rules failing first, at the ends of its range: the cause and the value of
R601. They meet the hypotheses of ShiftAccumulateAndInsertFollowTheirRules on its raising side. -/
theorem test_raises_ShiftAccumulateAndInsert :
    ([(.ssra 128 0 1 1, .elementSize, 128),
      (.ssra 32 0 1 0, .immediateRange, 0),
      (.ssra 32 0 1 33, .immediateRange, 33)] : List (Instr × Cause × ReqInt)).all raised = true := by decide +kernel

/-- Spec vectors V734, V737, V740, V743, V746, V749: each request appends that word and no other, its
encoding is that word, and the word decodes to it. They meet the hypotheses of
FloatUnpredicatedFollowTheirRules on its accepting side. -/
theorem test_words_FloatUnpredicated :
    ([(.faddUnpred 16 31 30 29, 0x655D03DF),
      (.fsubUnpred 16 31 30 29, 0x655D07DF),
      (.fmulUnpred 16 31 30 29, 0x655D0BDF),
      (.ftsmulUnpred 16 31 30 29, 0x655D0FDF),
      (.frecpsUnpred 16 31 30 29, 0x655D1BDF),
      (.frsqrtsUnpred 16 31 30 29, 0x655D1FDF)] : List (Instr × Word)).all accepted = true := by decide +kernel

/-- Spec vectors V752, V755, V758, V761, V764, V767, V770: each request appends that word and no other, its
encoding is that word, and the word decodes to it. They meet the hypotheses of
FloatPredicatedFollowTheirRules on its accepting side. -/
theorem test_words_FloatPredicated :
    ([(.faddPred 64 31 ⟨7, 1⟩ 31 30, 0x65C09FDF),
      (.fsubPred 64 31 ⟨7, 1⟩ 31 30, 0x65C19FDF),
      (.fmulPred 64 31 ⟨7, 1⟩ 31 30, 0x65C29FDF),
      (.fsubrPred 64 31 ⟨7, 1⟩ 31 30, 0x65C39FDF),
      (.fmaxnmPred 64 31 ⟨7, 1⟩ 31 30, 0x65C49FDF),
      (.fminnmPred 64 31 ⟨7, 1⟩ 31 30, 0x65C59FDF),
      (.fmaxPred 64 31 ⟨7, 1⟩ 31 30, 0x65C69FDF)] : List (Instr × Word)).all accepted = true := by decide +kernel

/-- Each `require` line of the rules failing first, at the ends of its range: the cause and the value of
R601. They meet the hypotheses of FloatPredicatedFollowTheirRules on its raising side. -/
theorem test_raises_FloatPredicated :
    ([(.faddPred 128 0 ⟨0, 1⟩ 0 1, .elementSize, 128),
      (.faddPred 8 0 ⟨0, 1⟩ 0 1, .elementSize, 8),
      (.faddPred 32 0 ⟨8, 1⟩ 0 1, .operandRange, 8),
      (.faddPred 32 0 ⟨0, 2⟩ 0 1, .operandRange, 2),
      (.faddPred 32 0 ⟨0, 1⟩ 1 1, .aliasing, 0)] : List (Instr × Cause × ReqInt)).all raised = true := by decide +kernel

/-- Spec vectors V773, V776, V779, V782, V785, V788: each request appends that word and no other, its
encoding is that word, and the word decodes to it. They meet the hypotheses of
FloatPredicatedRestFollowTheirRules on its accepting side. -/
theorem test_words_FloatPredicatedRest :
    ([(.fminPred 64 31 ⟨7, 1⟩ 31 30, 0x65C79FDF),
      (.fabdPred 64 31 ⟨7, 1⟩ 31 30, 0x65C89FDF),
      (.fscalePred 64 31 ⟨7, 1⟩ 31 30, 0x65C99FDF),
      (.fmulxPred 64 31 ⟨7, 1⟩ 31 30, 0x65CA9FDF),
      (.fdivrPred 64 31 ⟨7, 1⟩ 31 30, 0x65CC9FDF),
      (.fdivPred 64 31 ⟨7, 1⟩ 31 30, 0x65CD9FDF)] : List (Instr × Word)).all accepted = true := by decide +kernel

/-- Spec vectors V791, V794, V797, V800, V803, V806, V809, V812, V815, V818: each request appends that word
and no other, its encoding is that word, and the word decodes to it. They meet the hypotheses of
FloatCompareConvertComplexFollowTheirRules on its accepting side. -/
theorem test_words_FloatCompareConvertComplex :
    ([(.fcmgeVec 16 15 ⟨7, 2⟩ 31 30, 0x655E5FEF),
      (.fcmgtVec 16 15 ⟨7, 2⟩ 31 30, 0x655E5FFF),
      (.fcmeqVec 16 15 ⟨7, 2⟩ 31 30, 0x655E7FEF),
      (.fcmneVec 16 15 ⟨7, 2⟩ 31 30, 0x655E7FFF),
      (.fcmuoVec 16 15 ⟨7, 2⟩ 31 30, 0x655EDFEF),
      (.facgeVec 16 15 ⟨7, 2⟩ 31 30, 0x655EDFFF),
      (.facgtVec 16 15 ⟨7, 2⟩ 31 30, 0x655EFFFF),
      (.fcvt 64 32 31 ⟨7, 1⟩ 30, 0x65CBBFDF),
      (.fcadd 64 31 ⟨7, 1⟩ 31 30 270, 0x64C19FDF),
      (.fcmla 16 31 ⟨7, 1⟩ 30 29 270, 0x645D7FDF)] : List (Instr × Word)).all accepted = true := by decide +kernel

/-- Each `require` line of the rules failing first, at the ends of its range: the cause and the value of
R601. They meet the hypotheses of FloatCompareConvertComplexFollowTheirRules on its raising side. -/
theorem test_raises_FloatCompareConvertComplex :
    ([(.fcmgeVec 128 0 ⟨0, 2⟩ 0 1, .elementSize, 128),
      (.fcmgeVec 8 0 ⟨0, 2⟩ 0 1, .elementSize, 8),
      (.fcmgeVec 32 0 ⟨8, 2⟩ 0 1, .operandRange, 8),
      (.fcmgeVec 32 0 ⟨0, 1⟩ 0 1, .operandRange, 1),
      (.fcvt 128 16 0 ⟨0, 1⟩ 1, .elementSize, 128),
      (.fcvt 8 16 0 ⟨0, 1⟩ 1, .elementSize, 8),
      (.fcvt 32 128 0 ⟨0, 1⟩ 1, .elementSize, 128),
      (.fcvt 32 8 0 ⟨0, 1⟩ 1, .elementSize, 8),
      (.fcvt 32 16 0 ⟨8, 1⟩ 1, .operandRange, 8),
      (.fcvt 32 16 0 ⟨0, 2⟩ 1, .operandRange, 2),
      (.fcvt 32 32 0 ⟨0, 1⟩ 1, .elementSize, 32),
      (.fcadd 128 0 ⟨0, 1⟩ 0 1 90, .elementSize, 128),
      (.fcadd 8 0 ⟨0, 1⟩ 0 1 90, .elementSize, 8),
      (.fcadd 32 0 ⟨8, 1⟩ 0 1 90, .operandRange, 8),
      (.fcadd 32 0 ⟨0, 2⟩ 0 1 90, .operandRange, 2),
      (.fcadd 32 0 ⟨0, 1⟩ 0 1 45, .immediateRange, 45),
      (.fcadd 32 0 ⟨0, 1⟩ 0 1 180, .immediateRange, 180),
      (.fcadd 32 0 ⟨0, 1⟩ 1 1 90, .aliasing, 0),
      (.fcmla 128 0 ⟨0, 1⟩ 1 2 0, .elementSize, 128),
      (.fcmla 8 0 ⟨0, 1⟩ 1 2 0, .elementSize, 8),
      (.fcmla 32 0 ⟨8, 1⟩ 1 2 0, .operandRange, 8),
      (.fcmla 32 0 ⟨0, 2⟩ 1 2 0, .operandRange, 2),
      (.fcmla 32 0 ⟨0, 1⟩ 1 2 45, .immediateRange, 45)] : List (Instr × Cause × ReqInt)).all raised = true := by decide +kernel

/-- Spec vectors V821, V824, V827, V830, V833, V836, V839, V842, V845, V848, V850: each request appends that
word and no other, its encoding is that word, and the word decodes to it. They meet the hypotheses of
IndexStackMiscellaneousFollowTheirRules on its accepting side. -/
theorem test_words_IndexStackMiscellaneous :
    ([(.indexIi 64 31 (-16) 15, 0x04EF421F),
      (.indexRi 64 31 30 (-16), 0x04F047DF),
      (.indexIr 8 31 15 30, 0x043E49FF),
      (.indexRr 64 31 30 29, 0x04FD4FDF),
      (.addvl 0 1 31, 0x042153E0),
      (.addpl 0 1 (-32), 0x04615400),
      (.rdvl 30 (-32), 0x04BF541E),
      (.ftssel 16 31 30 29, 0x047DB3DF),
      (.fexpa 64 31 30, 0x04E0BBDF),
      (.movprfxUnpred 31 30, 0x0420BFDF),
      (.movprfxPred 64 31 ⟨7, 2⟩ 30, 0x04D03FDF)] : List (Instr × Word)).all accepted = true := by decide +kernel

/-- Each `require` line of the rules failing first, at the ends of its range: the cause and the value of
R601. They meet the hypotheses of IndexStackMiscellaneousFollowTheirRules on its raising side. -/
theorem test_raises_IndexStackMiscellaneous :
    ([(.indexIi 128 0 0 1, .elementSize, 128),
      (.indexIi 32 0 16 1, .immediateRange, 16),
      (.indexIi 32 0 (-17) 1, .immediateRange, (-17)),
      (.indexIi 32 0 0 16, .immediateRange, 16),
      (.indexIi 32 0 0 (-17), .immediateRange, (-17)),
      (.indexRi 128 0 1 1, .elementSize, 128),
      (.indexRi 32 0 1 16, .immediateRange, 16),
      (.indexRi 32 0 1 (-17), .immediateRange, (-17)),
      (.indexIr 128 0 0 1, .elementSize, 128),
      (.indexIr 32 0 16 1, .immediateRange, 16),
      (.indexIr 32 0 (-17) 1, .immediateRange, (-17)),
      (.indexRr 128 0 1 2, .elementSize, 128),
      (.addvl 31 31 32, .immediateRange, 32),
      (.addvl 31 31 (-33), .immediateRange, (-33)),
      (.rdvl 0 32, .immediateRange, 32),
      (.rdvl 0 (-33), .immediateRange, (-33)),
      (.fexpa 128 0 1, .elementSize, 128),
      (.fexpa 8 0 1, .elementSize, 8),
      (.movprfxPred 128 0 ⟨0, 1⟩ 1, .elementSize, 128),
      (.movprfxPred 32 0 ⟨8, 1⟩ 1, .operandRange, 8),
      (.movprfxPred 32 0 ⟨0, 0⟩ 1, .operandRange, 0)] : List (Instr × Cause × ReqInt)).all raised = true := by decide +kernel

/-! ## Well-formedness: an ill-formed request for each check, refused -/

theorem test_wellFormed_refuses_size : (Instr.addUnpred 128 0 1 2).wellFormed = false := by decide
theorem test_wellFormed_refuses_high_predicate :
    (Instr.addPred 8 0 ⟨8, Style.merging⟩ 0 1).wellFormed = false := by decide
theorem test_wellFormed_refuses_style :
    (Instr.addPred 8 0 ⟨0, Style.zeroing⟩ 0 1).wellFormed = false := by decide
theorem test_wellFormed_refuses_style_code_3 : (Instr.brka 0 ⟨0, 3⟩ 1).wellFormed = false := by decide
theorem test_wellFormed_refuses_register :
    (Instr.addPred 8 0 ⟨0, Style.merging⟩ 1 2).wellFormed = false := by decide
theorem test_wellFormed_refuses_sequence :
    (Instr.ld3wSs 30 31 1 ⟨0, Style.zeroing⟩ 0 1).wellFormed = false := by decide
theorem test_wellFormed_accepts_sequence_around_31 :
    (Instr.ld3wSs 30 31 0 ⟨0, Style.zeroing⟩ 0 1).wellFormed = true := by decide
theorem test_wellFormed_refuses_interval :
    (Instr.cmpgeImm 8 0 ⟨0, Style.zeroing⟩ 1 (-17)).wellFormed = false := by decide
theorem test_wellFormed_refuses_multiple :
    (Instr.ld2wSi 0 1 ⟨0, Style.zeroing⟩ 0 (-15)).wellFormed = false := by decide
theorem test_wellFormed_refuses_rotation : (Instr.cadd 8 0 0 1 180).wellFormed = false := by decide
theorem test_wellFormed_refuses_right_shift :
    (Instr.asrImmUnpred 8 0 1 0).wellFormed = false := by decide
theorem test_wellFormed_refuses_left_shift :
    (Instr.lslImmUnpred 8 0 1 8).wellFormed = false := by decide
theorem test_wellFormed_refuses_index : (Instr.dupIndexed 128 0 1 4).wellFormed = false := by decide
theorem test_wellFormed_refuses_equal_sizes :
    (Instr.fcvt 16 16 0 ⟨0, Style.merging⟩ 1).wellFormed = false := by decide

/-! ## The decoder -/

/-- Word 0x04A20020 field by field (R100): 00000100 size=10 1 zm=00010 000 000 zn=00001 zd=00000. -/
theorem test_decode_bits_addUnpred :
    decodeTableWord 32 (0x04 * 2 ^ 24 + 2 * 2 ^ 22 + 1 * 2 ^ 21 + 2 * 2 ^ 16 + 1 * 2 ^ 5 + 0) =
      some (.addUnpred 32 0 1 2) := by decide +kernel

/-- A word of no row is refused by name. -/
theorem test_decode_refuses_no_operation : decodeWord 0xFFFFFFFF = .error .noOperation := by
  decide +kernel

/-- Three bytes are no word. -/
theorem test_decode_refuses_truncated : decodeBytes .little [0x20, 0x00, 0xA2] = .error .truncated := by
  decide +kernel

/-- The bytes of a word in either order, and what follows them. -/
theorem test_decode_bytes :
    (match decodeBytes .big [0x04, 0xA2, 0x00, 0x20, 0x7F] with
      | .ok (i, rest) => i == .addUnpred 32 0 1 2 && rest == [0x7F]
      | .error _ => false) = true := by decide +kernel

/-- A size code outside the legal set names its operation, and the request raises (R62, R83). -/
theorem test_decode_illegal_size :
    decodeTableWord 32 0x65000000 = some (.faddUnpred 8 0 0 0) ∧
    (Instr.faddUnpred 8 0 0 0).wellFormed = false := by decide +kernel

/-- Every row's word with its operand bits 0 is read as the row's operation. -/
theorem test_decode_every_row :
    patterns.all (fun p => match decodeWord p.value with | .ok i => i.op == p.op | _ => false) = true := by
  decide +kernel

/-! ## Order of the checks (R609) -/

/-- Vectors O1 to O5 of spec/95_test_vectors.md. -/
theorem test_order_vectors :
    ([(.addPred 128 0 ⟨9, Style.zeroing⟩ 1 2, .elementSize, 128),
      (.addPred 32 0 ⟨9, Style.zeroing⟩ 1 2, .operandRange, 9),
      (.addPred 32 0 ⟨7, Style.zeroing⟩ 1 2, .operandRange, 2),
      (.addPred 32 0 ⟨7, Style.merging⟩ 1 2, .aliasing, 0)] :
      List (Instr × Cause × ReqInt)).all raised = true ∧
    accepted (.addPred 32 0 ⟨7, Style.merging⟩ 0 2, 0x04801C40) = true := by decide +kernel
/-- The interval stands before the sequence, and the sequence before the multiple. -/
theorem test_order_structure :
    ([(.ld2wSi 0 5 ⟨0, Style.zeroing⟩ 0 15, .immediateRange, 15),
      (.ld2wSi 0 5 ⟨0, Style.zeroing⟩ 0 13, .aliasing, 0),
      (.ld2wSi 0 1 ⟨0, Style.zeroing⟩ 0 13, .immediateRange, 13)] :
      List (Instr × Cause × ReqInt)).all raised = true := by decide +kernel

/-! ## Single steps -/

/-- A state after reset with something on the port. -/
def presented (es : List PortEvent) : State := { State.reset with port := es }

/-- A request of one operation with 64-bit views. -/
def request (i : Instr) : PortEvent := .request (.direct i ⟨1, 1, 1⟩)

/-- The state a step leads to, where it leads to one, satisfies the check. -/
def nextIs (s : State) (check : State → Bool) : Bool :=
  match step s with
  | .next t => check t
  | _ => false

/-- The state after a raise. -/
def haltedState : State := State.reset.raise .addUnpred .elementSize 128

theorem test_step_appends_little : nextIs (presented [request (.addUnpred 32 0 1 2)]) (fun t =>
    t.stream == [(0, 0x20), (1, 0x00), (2, 0xA2), (3, 0x04)] && t.wpos == 1 && t.port == []) = true := by
  decide +kernel

theorem test_step_appends_big :
    nextIs { presented [request (.addUnpred 32 0 1 2)] with byteOrder := .big, wpos := 5, wpos0 := 5 }
      (fun t => t.stream == [(20, 0x04), (21, 0xA2), (22, 0x00), (23, 0x20)] && t.wpos == 6) = true := by
  decide +kernel

theorem test_step_raises : nextIs (presented [request (.addUnpred 128 0 1 2), .reset]) (fun t =>
    t.halted && t.cause == 1 && t.diagOp == .addUnpred && t.diagValue == 128 && t.stream == []
      && t.wpos == 0 && t.port == [.reset]) = true := by decide +kernel

theorem test_step_halted_refuses :
    nextIs { haltedState with port := [request (.pfalse 0)] } (· == haltedState) = true := by
  decide +kernel

theorem test_step_reset_keeps_the_stream :
    nextIs { haltedState.append 7 with port := [.reset] } (fun t =>
      !t.halted && t.cause == 0 && t.wpos == 1 && t.stream == (State.reset.append 7).stream) = true := by
  decide +kernel

theorem test_step_idle : nextIs State.reset (· == State.reset) = true := by decide +kernel

/-- Vector of R318: ld1b of ScalarScalar(x0, x1) is the word of ld1b_ss. -/
theorem test_polymorphic_forwards :
    nextIs (presented [.request (.polymorphic .ld1b 8 0 ⟨0, Style.zeroing⟩ (.scalarScalar 0 1) ⟨0, 0, 0⟩)])
      (· == State.reset.append 0xA4014000) = true := by decide +kernel

/-- Vector of R318: st1d of VectorImm(z1, 0) raises, tag code 3. -/
theorem test_polymorphic_dead_end :
    nextIs (presented [.request (.polymorphic .st1d 64 0 ⟨0, Style.plain⟩ (.vectorImm 1 0) ⟨1, 1, 1⟩)])
      (· == State.reset.raise .st1d .addressingMode 3) = true := by decide +kernel

/-- AddressingMode outranks a bad size (R609). -/
theorem test_polymorphic_tag_first :
    nextIs (presented [.request (.polymorphic .ld1d 8 0 ⟨9, Style.plain⟩ (.scalarVector 1 0) ⟨1, 1, 1⟩)])
      (· == State.reset.raise .ld1d .addressingMode 2) = true := by decide +kernel

theorem test_unadmitted_is_refused_unchanged :
    nextIs (presented [.request (.unadmitted 300)]) (· == State.reset) = true := by decide +kernel

/-- The request of a word put where the next request is taken runs as the first after reset. -/
theorem test_withFetchWord :
    nextIs (State.reset.withFetchWord 32 0x04D03FDF) (· == State.reset.append 0x04D03FDF) = true := by
  decide +kernel

/-! ## The format table as a parameter (R6, R78, U14) -/

/-- A run whose table has ADDSUB_UNPRED at another skeleton and opc at 12:10 moved to 15:13, and SUB with the
selector 0b011 and its sources exchanged. -/
def otherTable : FormatTable where
  packers := [(.addsubUnpred, ⟨0x08200000,
    [⟨.size, 23, 22⟩, ⟨.zm, 20, 16⟩, ⟨.opc, 15, 13⟩, ⟨.zn, 9, 5⟩, ⟨.zd, 4, 0⟩]⟩)]
  rows := [(.subUnpred, ⟨.addsubUnpred,
    [(.size, .expr .size), (.zm, .expr .zn), (.opc, .const 0b011), (.zn, .expr .zm), (.zd, .expr .zd)]⟩)]

/-- The table's literals are what is packed; an operation and a packer it does not list are as in the
default. Words by hand from the table above. -/
theorem test_other_table :
    ([(.addUnpred 32 3 1 2, 0x08A20023), (.sqaddUnpred 32 3 1 2, 0x08A28023),
      (.subUnpred 32 3 1 2, 0x08A16043), (.pfalse 15, 0x2518E40F)] : List (Instr × Word)).all (fun p =>
        match exec p.1 { State.reset with formatTable := otherTable } with
        | .next t => t == State.append { State.reset with formatTable := otherTable } p.2
        | _ => false) = true := by decide +kernel

/-- The checks of a request do not depend on the table. -/
theorem test_other_table_raises :
    (match exec (.subUnpred 128 3 1 2) { State.reset with formatTable := otherTable } with
      | .next t => t == State.raise { State.reset with formatTable := otherTable } .subUnpred .elementSize 128
      | _ => false) = true := by decide +kernel

/-- Each of the three conditions of R78 can fail: overlapping fields, a skeleton with a field bit set, and a
field without a value. -/
theorem test_ill_formed_tables :
    (Format.mk 0 [⟨.zn, 9, 5⟩, ⟨.zd, 5, 0⟩]).wellFormed = false ∧
    (Format.mk 0x20 [⟨.zn, 9, 5⟩, ⟨.zd, 4, 0⟩]).wellFormed = false ∧
    (FormatTable.mk [] [(.addUnpred, ⟨.addsubUnpred, [(.size, .expr .size)]⟩)]).gives
      (.addUnpred 32 0 1 2) = false ∧
    otherTable.gives (.subUnpred 32 3 1 2) = true := by decide +kernel

/-! ## Witnesses: states and operands that meet the hypotheses of the statements of Obligations.lean -/

/-- A stream of one word from `WPOS0` = 1, big-endian, with a request to come, meets the invariant. -/
theorem witness_EveryStepKeepsTheInvariant :
    State.Inv { State.append { State.reset with wpos0 := 1, wpos := 1, byteOrder := .big } 0x04A20020 with
      port := [request (.pfalse 0)] } := by
  refine ⟨by decide, by decide, fun a => ?_, rfl⟩
  have e := Memory.read_writeWord [] .big 4 a 0x04A20020
  show (Memory.read (Memory.writeWord [] .big 4 0x04A20020) a).isSome = decide (4 * 1 ≤ a ∧ a < 4 * 2)
  rw [e]
  by_cases h : 4 ≤ a ∧ a < 4 + 4
  · rw [if_pos h]; exact (decide_eq_true h).symm
  · rw [if_neg h]; exact (decide_eq_false h).symm

theorem witness_HaltedBlockRefusesEverySequenceOfRequests :
    haltedState.halted = true ∧
    (State.port { haltedState with port := [request (.pfalse 0), .request (.unadmitted 5), .reset] }) =
      [Request.direct (.pfalse 0) ⟨1, 1, 1⟩, .unadmitted 5].map PortEvent.request ++ [.reset] :=
  ⟨rfl, rfl⟩

theorem witness_ResetEventClearsTheLatchAndLeavesTheSink :
    (State.port { haltedState with port := [.reset] }) = .reset :: [] := rfl

/-- A step that sets the latch, and one that clears it. -/
theorem witness_LatchIsSetByRaiseOnlyAndClearedByResetOnly :
    nextIs (presented [request (.addUnpred 128 0 1 2)]) (fun t => t.halted) = true ∧
    (presented [request (.addUnpred 128 0 1 2)]).halted = false ∧
    nextIs { haltedState with port := [.reset] } (fun t => !t.halted) = true ∧
    haltedState.halted = true := by decide +kernel

/-- A legal request, an illegal one, and a state with the latch clear. -/
theorem witness_EveryLegalRequestAppendsItsWord :
    State.reset.formatTable = FormatTable.default ∧ State.reset.halted = false ∧
    (Instr.ld4wSi 30 31 0 1 ⟨7, Style.zeroing⟩ 31 (-32)).wellFormed = true := by decide
/-- The default table, and another under which the packer is well formed and the values fit. -/
theorem witness_EveryLegalRequestPacksItsTableEntryAndEveryValueFits :
    State.reset.halted = false ∧ State.reset.formatTable = FormatTable.default ∧
    (Instr.st4dSi 30 31 0 1 ⟨7, Style.plain⟩ 31 28).wellFormed = true ∧
    (Instr.subUnpred 64 31 31 31).wellFormed = true ∧
    (State.packerOf { State.reset with formatTable := otherTable } (.subUnpred 64 31 31 31)).wellFormed ∧
    (State.packerOf { State.reset with formatTable := otherTable } (.subUnpred 64 31 31 31)).fields.all
      (fun x => State.fieldValue { State.reset with formatTable := otherTable }
        (.subUnpred 64 31 31 31) x.name < 2 ^ x.width) = true := by decide +kernel
theorem witness_EveryIllegalRequestRaisesAndAppendsNothing :
    State.reset.halted = false ∧ (Instr.ld4wSi 30 31 0 1 ⟨7, Style.zeroing⟩ 31 (-36)).wellFormed = false :=
  by decide

/-- Both ways of R168: a request that every state appends a word on, and one that every state raises on. -/
theorem witness_OutcomeDependsOnTheRequestAlone :
    accepted (.pfalse 15, 0x2518E40F) = true ∧ raised (.rdvl 0 32, .immediateRange, 32) = true := by
  decide +kernel

theorem witness_DecodingTheWordOfALegalRequestGivesTheRequest :
    (Instr.dupIndexed 128 31 30 3).wellFormed = true := by decide
theorem witness_AWordThatDecodesToALegalRequestIsItsWord :
    decodeWord 0x2518E40F = .ok (.pfalse 15) ∧ (Instr.pfalse 15).wellFormed = true := by decide +kernel
theorem witness_DistinctLegalRequestsHaveDistinctWords :
    (Instr.pfalse 15).wellFormed = true ∧ (Instr.pfalse 15).encode = (Instr.pfalse 15).encode :=
  ⟨rfl, rfl⟩
theorem witness_AppendedWordHasItsOperationsFixedBits :
    State.reset.formatTable = FormatTable.default ∧ State.reset.halted = false ∧
    exec (.pfalse 15) State.reset = .next (State.reset.append 0x2518E40F) := ⟨rfl, rfl, rfl⟩

theorem witness_StepRunsTheRequestPresentedFirst :
    (presented [request (.pfalse 15)]).port = .request (.direct (.pfalse 15) ⟨1, 1, 1⟩) :: [] ∧
    (presented [.request (.polymorphic .st1d 64 0 ⟨0, Style.plain⟩ (.vectorImm 1 0) ⟨0, 1, 0⟩)]).port =
      .request (.polymorphic .st1d 64 0 ⟨0, Style.plain⟩ (.vectorImm 1 0) ⟨0, 1, 0⟩) :: [] ∧
    decodeTableWord 32 0x2518E40F = some (.pfalse 15) := by decide +kernel

/-- For each polymorphic name and each wired tag, a legal target and an illegal one. -/
theorem witness_PolymorphicRequestsForwardOrRaiseAddressingMode :
    State.reset.halted = false ∧
    ([.ld1b, .ld1sw, .ld1h, .ld1sh, .ld1w, .ld1sb, .ld1d] : List PolyOp).all (fun p =>
      (p.scalarScalar 64 0 ⟨7, Style.zeroing⟩ 0 1).wellFormed
      && (p.scalarImm 64 0 ⟨7, Style.zeroing⟩ 0 (-8)).wellFormed
      && !(p.scalarScalar 64 0 ⟨8, Style.zeroing⟩ 0 1).wellFormed
      && !(p.scalarImm 64 0 ⟨7, Style.zeroing⟩ 0 8).wellFormed) = true ∧
    ([.st1b, .st1h, .st1w, .st1d] : List PolyOp).all (fun p =>
      (p.scalarScalar 64 0 ⟨7, Style.plain⟩ 0 1).wellFormed
      && (p.scalarImm 64 0 ⟨7, Style.plain⟩ 0 7).wellFormed
      && !(p.scalarScalar 64 0 ⟨7, Style.merging⟩ 0 1).wellFormed
      && !(p.scalarImm 64 0 ⟨7, Style.plain⟩ 0 (-9)).wellFormed) = true := by decide

/-- Both byte orders, and an address outside the four on each side. -/
theorem witness_AppendWritesFourBytesAtTheCursorAndNothingElse :
    State.reset.byteOrder = .little ∧ (State.byteOrder { State.reset with byteOrder := .big }) = .big ∧
    (3 < 4 * 1 ∨ 4 * 1 + 4 ≤ 3) ∧ (8 < 4 * 1 ∨ 4 * 1 + 4 ≤ 8) := by decide

theorem witness_OnlyWordsOfLegalRequestsAreAppended :
    nextIs (presented [request (.pfalse 15)]) (fun t => t.wpos != (presented []).wpos) = true := by
  decide +kernel
theorem witness_EveryStepOnlyAppendsToTheStream :
    nextIs (presented [request (.pfalse 15)]) (fun t => t.wpos == 1) = true ∧
    nextIs (presented []) (fun t => t.wpos == 0) = true := by decide +kernel

theorem witness_ARunOfLegalRequestsAppendsTheirWordsInOrder :
    (presented [request (.pfalse 15), request .setffr]).halted = false ∧
    (∀ q ∈ [(Instr.pfalse 15, (⟨1, 1, 1⟩ : ScalarViews)), (.setffr, ⟨1, 1, 1⟩)], q.1.wellFormed = true) ∧
    (presented [request (.pfalse 15), request .setffr]).port =
      [(Instr.pfalse 15, (⟨1, 1, 1⟩ : ScalarViews)), (.setffr, ⟨1, 1, 1⟩)].map
        (fun q => PortEvent.request (.direct q.1 q.2)) ∧
    (presented []).wpos = (presented []).wpos0 := by decide

theorem witness_ARunStopsAtItsFirstIllegalRequest :
    (∀ q ∈ [(Instr.pfalse 15, (⟨1, 1, 1⟩ : ScalarViews))], q.1.wellFormed = true) ∧
    (Instr.rdvl 0 32).wellFormed = false ∧
    (presented [request (.pfalse 15), request (.rdvl 0 32), request .setffr]).port =
      [(Instr.pfalse 15, (⟨1, 1, 1⟩ : ScalarViews))].map (fun q => PortEvent.request (.direct q.1 q.2)) ++
      .request (.direct (.rdvl 0 32) ⟨1, 1, 1⟩) ::
        [Request.direct .setffr ⟨1, 1, 1⟩].map PortEvent.request := by decide

/-- The ends of the legal shift ranges, both directions. -/
theorem witness_ShiftCodecHasTheClosedForm :
    ((0 : Int) ≤ 0 ∧ (0 : Int) < 8) ∧ ((0 : Int) ≤ 63 ∧ (63 : Int) < 64) ∧
    ((0 : Int) < 1 ∧ (1 : Int) ≤ 8) ∧ ((0 : Int) < 64 ∧ (64 : Int) ≤ 64) := by decide
/-- Left 1 and right 7 at size 8 have one triple (R69); the ranges' ends are those above. -/
theorem witness_ShiftCodecIsRecoverableWithTheDirectionFixed :
    shiftFields 8 1 true = shiftFields 8 7 false ∧ shiftFields 64 0 true = shiftFields 64 64 false := by
  decide +kernel

theorem witness_EveryStepAnswersANextState :
    (presented []).port = [] ∧
    (presented [.request (.unadmitted 300)]).port = .request (.unadmitted 300) :: [] := by decide

end Sys2Proof.Tests
end

section
/-! Packing (R164) read back (R165): a packer whose fields lie in the word, apart from one another and from the
skeleton, gives a word whose fields hold the values placed, where each value fits its field. -/

namespace Sys2Proof.Machine

/-- The conditions (a) and (b) of R78 for one packer, as propositions. -/
theorem Format.wellFormed_iff (f : Format) : f.wellFormed = true ↔
    (∀ x ∈ f.fields, x.low ≤ x.high ∧ x.high < 32 ∧ f.skeleton &&& x.mask = 0) ∧
    f.fields.Pairwise (fun x y => x.mask &&& y.mask = 0) := by
  simp [Format.wellFormed, and_assoc]

/-- The field lies in the word, and its value fits its bits. -/
def Field.Fits (v : FieldName → Nat) (x : Field) : Prop :=
  x.low + x.width ≤ 32 ∧ v x.name < 2 ^ x.width

/-- The mask of a field is the field with every bit set. -/
theorem Field.mask_eq_place (x : Field) : x.mask = place (BitVec.allOnes x.width) x.low := by
  apply BitVec.eq_of_getLsbD_eq
  intro k hk
  simp only [Field.mask, getLsbD_place, BitVec.getLsbD_ofNat, Nat.testBit_shiftLeft,
    Nat.testBit_two_pow_sub_one, BitVec.getLsbD_allOnes]
  grind

/-- What the packer ORs in for a value that fits is the placed field. -/
theorem Field.Fits.shiftLeft_eq_place {v : FieldName → Nat} {x : Field} (h : x.Fits v) :
    BitVec.ofNat 32 (v x.name) <<< x.low = place (BitVec.ofNat x.width (v x.name)) x.low := by
  obtain ⟨hword, hval⟩ := h
  have h32 : 2 ^ x.width ≤ 2 ^ 32 := Nat.pow_le_pow_right (by decide) (by omega)
  unfold place
  congr 1
  apply BitVec.eq_of_toNat_eq
  simp only [BitVec.toNat_setWidth, BitVec.toNat_ofNat, Nat.mod_eq_of_lt hval]

/-- A word with no bit in a field reads 0 there. -/
theorem extractLsb'_eq_zero_of_and_mask {x : Field} (h : x.low + x.width ≤ 32) {w : Word}
    (hz : w &&& x.mask = 0) : w.extractLsb' x.low x.width = 0 := by
  rw [← extractLsb'_place (w.extractLsb' x.low x.width) x.low h, place_extractLsb',
    ← Field.mask_eq_place, hz]
  exact BitVec.extractLsb'_zero

/-- A value that fits its field sets no bit of a field apart from it. -/
theorem Field.Fits.shiftLeft_and_mask {v : FieldName → Nat} {x y : Field} (h : y.Fits v)
    (hd : y.mask &&& x.mask = 0) : BitVec.ofNat 32 (v y.name) <<< y.low &&& x.mask = 0 := by
  rw [h.shiftLeft_eq_place]
  rw [Field.mask_eq_place] at hd
  exact place_and_eq_zero _ _ _ hd

/-- Packing fields apart from `x` leaves what the word holds at `x`. -/
theorem Format.extractLsb'_pack_of_disjoint {v : FieldName → Nat} {x : Field}
    (hx : x.low + x.width ≤ 32) {fs : List Field}
    (h : ∀ y ∈ fs, y.Fits v ∧ y.mask &&& x.mask = 0) (k : Word) :
    ((Format.mk k fs).pack v).extractLsb' x.low x.width = k.extractLsb' x.low x.width := by
  induction fs generalizing k with
  | nil => rfl
  | cons y fs ih =>
    obtain ⟨⟨hfit, hd⟩, hfs⟩ := List.forall_mem_cons.1 h
    rw [Format.pack_cons, ih hfs, extractLsb'_or_word,
      extractLsb'_eq_zero_of_and_mask hx (hfit.shiftLeft_and_mask hd)]
    exact BitVec.or_zero

/-- Packing puts the value of a field at the field, where the word holds nothing yet. -/
theorem Format.extractLsb'_pack_of_mem {v : FieldName → Nat} {x : Field} {fs : List Field}
    (hfit : ∀ y ∈ fs, y.Fits v) (hd : fs.Pairwise (fun x y => x.mask &&& y.mask = 0))
    (hx : x ∈ fs) {k : Word} (hk : k &&& x.mask = 0) :
    ((Format.mk k fs).pack v).extractLsb' x.low x.width = BitVec.ofNat x.width (v x.name) := by
  induction fs generalizing k with
  | nil => exact absurd hx List.not_mem_nil
  | cons y fs ih =>
    obtain ⟨hyfit, hfsfit⟩ := List.forall_mem_cons.1 hfit
    obtain ⟨hy, hfs⟩ := List.pairwise_cons.1 hd
    rw [Format.pack_cons]
    rcases List.mem_cons.1 hx with rfl | hx
    · have hrest : ∀ z ∈ fs, z.Fits v ∧ z.mask &&& x.mask = 0 := fun z hz =>
        ⟨hfsfit z hz, BitVec.and_comm .. ▸ hy z hz⟩
      rw [Format.extractLsb'_pack_of_disjoint hyfit.1 hrest, extractLsb'_or_word,
        extractLsb'_eq_zero_of_and_mask hyfit.1 hk, hyfit.shiftLeft_eq_place,
        extractLsb'_place _ _ hyfit.1]
      exact BitVec.zero_or
    · refine ih hfsfit hfs hx ?_
      rw [or_and_word, hk, hyfit.shiftLeft_and_mask (hy x hx)]
      rfl

/-- R165: in the word of a well-formed packer every field holds its value, where the values fit. -/
theorem Format.extractLsb'_pack {f : Format} (hf : f.wellFormed = true) {v : FieldName → Nat}
    (hv : ∀ x ∈ f.fields, v x.name < 2 ^ x.width) {x : Field} (hx : x ∈ f.fields) :
    ((f.pack v).extractLsb' x.low x.width).toNat = v x.name := by
  obtain ⟨hfields, hd⟩ := f.wellFormed_iff.1 hf
  have hfit : ∀ y ∈ f.fields, y.Fits v := fun y hy => by
    obtain ⟨hle, hlt, -⟩ := hfields y hy
    exact ⟨by unfold Field.width; omega, hv y hy⟩
  obtain ⟨-, -, hskeleton⟩ := hfields x hx
  rw [Format.extractLsb'_pack_of_mem hfit hd hx hskeleton, BitVec.toNat_ofNat,
    Nat.mod_eq_of_lt (hv x hx)]

end Sys2Proof.Machine
end

section
/-! The meanings of the 287 operations as one shape: the step that every operation shares (R160), with the
checks of `wellFormed` and the operation's row of the table. -/

namespace Sys2Proof.Machine

/-- Every request runs the shared step with its own name and placement, and its checks are those of
`wellFormed`. -/
theorem exec_eq_perform (i : Instr) : ∃ checks,
    (∀ s, exec i s = perform i.op checks i.placement s) ∧
    (i.wellFormed = true ↔ ∀ c ∈ checks, c.ok = true) := by
  cases i
  case andUnpred | orrUnpred | eorUnpred | bicUnpred | pfalse | rdffrUnpred | setffr | wrffr
      | movprfxUnpred => exact ⟨[], fun _ => rfl, by simp [Instr.wellFormed]⟩
  all_goals
    refine ⟨_, fun _ => rfl, ?_⟩
    simp only [Instr.wellFormed, Bool.and_eq_true, List.forall_mem_cons, List.not_mem_nil,
      false_imp_iff, implies_true, and_true, and_assoc, requireSize, requireLowPredicate,
      requireStyle, requireSame, requireSequence, requireInterval, requireMultiple, requireRotation,
      requireRightShift, requireLeftShift, requireIndex, requireDistinctSizes]

/-- A legal request appends its word under the run's format table (R160, R164). -/
theorem exec_of_wellFormed {i : Instr} {s : State} (hs : s.halted = false)
    (hi : i.wellFormed = true) : exec i s = .next (s.append (s.wordOf i)) := by
  obtain ⟨checks, hexec, hok⟩ := exec_eq_perform i
  rw [hexec, perform_accepted hs (firstFailed_eq_none.2 (hok.1 hi))]
  rfl

end Sys2Proof.Machine
end

section
/-! The values that the default table gives the fields fit them (R165), for every legal request. -/

namespace Sys2Proof.Machine

/-! ## The values of the rules' expressions -/

/-- A predicate p0..p7 fits a 3-bit field (R64). -/
theorem lowPredicate_iff (pg : GovPred) : lowPredicate pg = true ↔ pg.idx.toNat < 2 ^ 3 := by
  simp only [lowPredicate, decide_eq_true_eq, BitVec.le_def]
  exact Nat.lt_succ_iff.symm

theorem sizecode_lt (size : ReqInt) : sizecode size < 2 ^ 2 := by
  rcases sizecode_cases size with h | h | h | h <;> omega

/-- The code of a narrow size has a successor: the code of the size twice as wide (R419). -/
theorem sizecode_succ_lt {size : ReqInt} (h : legalSize [8, 16, 32] size = true) :
    sizecode size + 1 < 2 ^ 2 := by
  simp only [legalSize_eq, decide_eq_true_eq, List.mem_cons, List.not_mem_nil, or_false] at h
  rcases h with rfl | rfl | rfl <;> decide

/-- The sums of `dtype` (R76). -/
theorem dtype_lt (size : ReqInt) : sizecode size < 2 ^ 4 ∧ 0b0100 + sizecode size < 2 ^ 4 ∧
    0b1000 + sizecode size < 2 ^ 4 := by
  have := sizecode_lt size
  omega

/-- An interval from 0 bounds the unsigned value too. -/
theorem inInterval_zero_iff (hi : Int) (imm : ReqInt) :
    inInterval 0 hi imm = true ↔ imm.toNat < 2 ^ 31 ∧ (imm.toNat : Int) ≤ hi := by
  simp only [inInterval, decide_eq_true_eq]
  have := BitVec.toInt_eq_toNat_cond imm
  split at this <;> omega

theorem rotation_div_lt {rot : ReqInt} (h : legalRotation [0, 90, 180, 270] rot = true) :
    rot.toNat / 90 < 2 ^ 2 := by
  simp only [legalRotation_eq, decide_eq_true_eq, List.mem_cons, List.not_mem_nil, or_false] at h
  rcases h with rfl | rfl | rfl | rfl <;> decide

theorem oddRotation_lt (rot : ReqInt) : oddRotation rot < 2 ^ 1 := by
  unfold oddRotation; split <;> decide

theorem mergeBit_lt (pg : GovPred) : mergeBit pg < 2 ^ 1 := by
  unfold mergeBit; split <;> decide

theorem fcvtTable_lt (dsize ssize : ReqInt) :
    (fcvtTable dsize ssize).1 < 2 ^ 2 ∧ (fcvtTable dsize ssize).2 < 2 ^ 2 := by
  unfold fcvtTable; constructor <;> (repeat' split) <;> decide

/-! ## A row and its packer -/

/-- The values of a row stand in the order of the packer's fields, and each fits its field. -/
def FitsInOrder (values : List (FieldName × FieldValue)) (fields : List Field) : Prop :=
  List.Forall₂ (fun v x => v.1 = x.name ∧ v.2.num < 2 ^ x.width) values fields

/-- In a row in the order of its packer's fields, no two of one name, every field's value fits it. -/
theorem FitsInOrder.value_lt {values : List (FieldName × FieldValue)} {fields : List Field}
    (h : FitsInOrder values fields) (hn : (fields.map Field.name).Nodup) (n : FormatName) :
    ∀ x ∈ fields, (Placement.mk n values).value x.name < 2 ^ x.width := by
  unfold FitsInOrder at h
  induction h with
  | nil => exact fun x hx => absurd hx List.not_mem_nil
  | @cons v y values fields hv _ ih =>
    obtain ⟨name, value⟩ := v
    obtain ⟨rfl, hlt⟩ := hv
    obtain ⟨hy, hn⟩ := List.nodup_cons.1 hn
    refine List.forall_mem_cons.2 ⟨?_, fun x hx => ?_⟩
    · rwa [Placement.value_cons_self]
    · have hne : x.name ≠ y.name := fun he => hy (he ▸ List.mem_map_of_mem hx)
      rw [Placement.value_cons_of_ne n hne]
      exact ih hn x hx

/-- The fields of a packer of the default table have different names (R100 to R158). -/
theorem Formats.default_names_nodup (n : FormatName) :
    ((Formats.default n).fields.map Field.name).Nodup := by
  cases n <;> decide

/-- A row and a packer written out decide whether a placement fits. -/
theorem FitsInOrder.of_eq {p : Placement} {n : FormatName} {values : List (FieldName × FieldValue)}
    {k : Word} {fields : List Field} (hp : p = ⟨n, values⟩) (hf : Formats.default n = ⟨k, fields⟩)
    (h : FitsInOrder values fields) : FitsInOrder p.values (Formats.default p.packer).fields := by
  subst hp
  rwa [hf]

/-- What the default table gives a legal request fits the packer's fields: registers by their type, an
immediate by its modulus or its interval, the rest by the lemmas above. -/
theorem placement_fitsInOrder {i : Instr} (h : i.wellFormed = true) :
    FitsInOrder i.placement.values (Formats.default i.placement.packer).fields := by
  cases i
  case setffr => exact .nil
  all_goals
    refine FitsInOrder.of_eq rfl rfl ?_
    simp only [Instr.wellFormed, Bool.and_eq_true, lowPredicate_iff, inInterval_zero_iff] at h
    simp only [FitsInOrder, List.forall₂_cons, List.forall₂_nil_right_iff, and_true, true_and,
      FieldValue.num, Field.width, Nat.reduceSub, Nat.reduceAdd, BitVec.isLt, h, modField, scaledField,
      sizecode_lt, sizecode_succ_lt, dtype_lt, rotation_div_lt, oddRotation_lt, mergeBit_lt,
      fcvtTable_lt]
  all_goals omega

/-- Under the default table every value placed for a legal request fits its field (R165). -/
theorem State.fieldValue_lt {i : Instr} {s : State} (ht : s.formatTable = FormatTable.default)
    (hi : i.wellFormed = true) :
    ∀ x ∈ (s.packerOf i).fields, s.fieldValue i x.name < 2 ^ x.width := by
  simp only [State.packerOf, State.fieldValue, ht, FormatTable.default_placement,
    FormatTable.default_packer]
  exact (placement_fitsInOrder hi).value_lt (Formats.default_names_nodup _) _

/-- Settles O60: a legal request runs the shared step with every check passed, its default row fits its
packer, and packing is read back field by field. -/
theorem everyLegalRequestPacksItsTableEntryAndEveryValueFits :
    Obligations.EveryLegalRequestPacksItsTableEntryAndEveryValueFits := by
  intro i s hs hi
  exact ⟨exec_of_wellFormed hs hi, fun ht => State.fieldValue_lt ht hi,
    fun hf hv _ hx => Format.extractLsb'_pack hf hv hx⟩

end Sys2Proof.Machine
end

section
/-! One step as an inversion principle: what a request leaves of the state it meets (R160, R606), and what a
step does with the first entry of the port (R630). The invariant and the frames of a step follow from it. -/

namespace Sys2Proof.Machine

/-! ## What a request and a step can do -/

/-- All that a request can do to the state it meets: nothing (R606, U2), the append of a legal request's
word (R160, R164), or one raise (R604). -/
inductive RequestEffect (s : State) : State → Prop where
  | refused : RequestEffect s s
  | appended (i : Instr) (hs : s.halted = false) (hi : i.wellFormed = true) :
      RequestEffect s (s.append (s.wordOf i))
  | raised (op : OpCode) (cause : Cause) (value : BitVec 32) (hs : s.halted = false) :
      RequestEffect s (s.raise op cause value)

/-- All that a step can do: wait at an empty port, take the reset that stands first, or take the request
that stands first (R160, R630). -/
inductive StepEffect (s : State) : State → Prop where
  | waited (hport : s.port = []) : StepEffect s s
  | reset (rest : List PortEvent) (hport : s.port = .reset :: rest) :
      StepEffect s (State.takeReset { s with port := rest })
  | request (q : Request) (rest : List PortEvent) (t : State) (hport : s.port = .request q :: rest)
      (heffect : RequestEffect { s with port := rest } t) : StepEffect s t

/-- While the latch is set a request of any operation changes nothing (R606). -/
theorem exec_of_halted {i : Instr} {s : State} (hs : s.halted = true) : exec i s = .next s := by
  obtain ⟨checks, hexec, -⟩ := exec_eq_perform i
  rw [hexec, perform_halted hs]

/-- An illegal request raises under its own name (R83, R162). -/
theorem exec_of_not_wellFormed {i : Instr} {s : State} (hs : s.halted = false)
    (hi : i.wellFormed = false) : ∃ cause value, exec i s = .next (s.raise i.op cause value) := by
  obtain ⟨checks, hexec, hok⟩ := exec_eq_perform i
  cases hc : firstFailed checks with
  | none => exact absurd (hok.2 (firstFailed_eq_none.1 hc)) (by simp [hi])
  | some c => exact ⟨c.cause, c.value, by rw [hexec, perform_raised hs hc]⟩

/-- The three ways of the step of an operation: refused, appended or raised. -/
theorem exec_cases (i : Instr) (s : State) :
    (s.halted = true ∧ exec i s = .next s) ∨
    (s.halted = false ∧ i.wellFormed = true ∧ exec i s = .next (s.append (s.wordOf i))) ∨
    (s.halted = false ∧ i.wellFormed = false ∧
      ∃ cause value, exec i s = .next (s.raise i.op cause value)) := by
  cases hs : s.halted with
  | true => exact .inl ⟨rfl, exec_of_halted hs⟩
  | false =>
    cases hi : i.wellFormed with
    | true => exact .inr (.inl ⟨rfl, rfl, exec_of_wellFormed hs hi⟩)
    | false => exact .inr (.inr ⟨rfl, rfl, exec_of_not_wellFormed hs hi⟩)

/-- The effect of a request of one of the 287 operations. -/
theorem exec_effect {i : Instr} {s t : State} (h : exec i s = .next t) : RequestEffect s t := by
  rcases exec_cases i s with ⟨-, he⟩ | ⟨hs, hi, he⟩ | ⟨hs, -, cause, value, he⟩ <;>
    obtain rfl := Host.Outcome.next.inj (he.symm.trans h)
  · exact .refused
  · exact .appended i hs hi
  · exact .raised i.op cause value hs

/-- Forwarding (R167) has an effect of the target's kind: only the name that a raise records differs. -/
theorem execForwarded_effect {p : PolyOp} {i : Instr} {s t : State}
    (h : execForwarded p i s = .next t) : RequestEffect s t := by
  rcases exec_cases i s with ⟨hs, he⟩ | ⟨hs, hi, he⟩ | ⟨hs, -, cause, value, he⟩ <;>
    obtain rfl := Host.Outcome.next.inj ((execForwarded_next he).symm.trans h)
  · simpa [hs] using RequestEffect.refused
  · simpa [hs] using RequestEffect.appended i hs hi
  · simp only [hs, State.raise_halted, Bool.false_eq_true, if_false, if_true]
    exact .raised (forwardedName p i.op) cause value hs

/-- An unwired tag (R84) is refused or raises. -/
theorem execUnwired_effect {p : PolyOp} {mem : MemoryOperand} {s t : State}
    (h : execUnwired p mem s = .next t) : RequestEffect s t := by
  obtain rfl := Host.Outcome.next.inj ((execUnwired_eq p mem s).symm.trans h)
  cases hs : s.halted with
  | true => simpa using RequestEffect.refused
  | false => simpa using RequestEffect.raised p.code .addressingMode (mem.tag.setWidth 32) hs

/-- The effect of a polymorphic request, tag by tag (R167, R318). -/
theorem execPolymorphic_effect {p : PolyOp} {size : ReqInt} {zt : VReg} {pg : GovPred}
    {mem : MemoryOperand} {s t : State} (h : execPolymorphic p size zt pg mem s = .next t) :
    RequestEffect s t := by
  cases mem with
  | scalarScalar rn rm => exact execForwarded_effect h
  | scalarImm rn imm => exact execForwarded_effect h
  | scalarVector rn zm => exact execUnwired_effect h
  | vectorImm zn imm => exact execUnwired_effect h

/-- A code outside the enumeration leaves the port and changes nothing else (U2, log 9). -/
theorem step_unadmitted {s : State} {code : Nat} {rest : List PortEvent}
    (h : s.port = .request (.unadmitted code) :: rest) : step s = .next { s with port := rest } := by
  simp [step, h]

/-- Every step has one of the effects listed. -/
theorem step_effect {s t : State} (h : step s = .next t) : StepEffect s t := by
  match hport : s.port with
  | [] =>
    obtain rfl := Host.Outcome.next.inj ((step_idle hport).symm.trans h)
    exact .waited hport
  | .reset :: rest =>
    obtain rfl := Host.Outcome.next.inj ((step_reset hport).symm.trans h)
    exact .reset rest hport
  | .request (.direct i v) :: rest =>
    exact .request _ rest t hport (exec_effect ((step_direct hport).symm.trans h))
  | .request (.polymorphic p size zt pg mem v) :: rest =>
    exact .request _ rest t hport (execPolymorphic_effect ((step_polymorphic hport).symm.trans h))
  | .request (.unadmitted code) :: rest =>
    obtain rfl := Host.Outcome.next.inj ((step_unadmitted hport).symm.trans h)
    exact .request _ rest _ hport .refused

/-! ## The invariant -/

/-- The code of a cause is one of 1 to 5 (R601). -/
theorem Cause.toCode_mem_range (c : Cause) : 1 ≤ Cause.toCode c ∧ Cause.toCode c ≤ 5 := by
  cases c <;> decide

/-- A write at or above `WPOS0` extends the bytes written by exactly the word at the cursor (R25, R41). -/
theorem State.streamExact_append {s : State} (hpos : s.wpos0 ≤ s.wpos) (h : s.streamExact) (w : Word) :
    (s.append w).streamExact := by
  intro a
  rw [State.append_stream, State.append_wpos0, State.append_wpos, Memory.read_writeWord]
  split
  · rw [Option.isSome_some, eq_comm, decide_eq_true_eq]
    omega
  · rw [h a, decide_eq_decide]
    omega

/-- `Append` keeps the invariant (R41, R47). -/
theorem State.Inv.append {s : State} (h : s.Inv) (w : Word) : (s.append w).Inv := by
  obtain ⟨hwf, hpos, hexact, hlatch⟩ := h
  exact ⟨Memory.writeWord_wf hwf .., Nat.le_succ_of_le hpos, State.streamExact_append hpos hexact w, hlatch⟩

/-- A raise keeps the invariant: the latch is set together with a code of R601. -/
theorem State.Inv.raise {s : State} (h : s.Inv) (op : OpCode) (c : Cause) (v : BitVec 32) :
    (s.raise op c v).Inv := by
  obtain ⟨hwf, hpos, hexact, -⟩ := h
  exact ⟨hwf, hpos, hexact, Cause.toCode_mem_range c⟩

/-- Reset keeps the invariant: the latch and the cause are cleared together (R630). -/
theorem State.Inv.takeReset {s : State} (h : s.Inv) : s.takeReset.Inv := by
  obtain ⟨hwf, hpos, hexact, -⟩ := h
  exact ⟨hwf, hpos, hexact, rfl⟩

/-- The invariant does not speak of the port. -/
theorem State.Inv.withPort {s : State} (h : s.Inv) (port : List PortEvent) :
    State.Inv { s with port := port } := h

/-- A request keeps the invariant. -/
theorem RequestEffect.inv {s t : State} (h : RequestEffect s t) (hs : s.Inv) : t.Inv := by
  cases h with
  | refused => exact hs
  | appended i => exact hs.append _
  | raised op cause value => exact hs.raise op cause value

/-- Settles O3: by the effects of a step, each of which keeps the invariant. -/
theorem everyStepKeepsTheInvariant : Obligations.EveryStepKeepsTheInvariant := by
  intro s t hs hstep
  cases step_effect hstep with
  | waited => exact hs
  | reset rest => exact (hs.withPort rest).takeReset
  | request q rest t _ heffect => exact heffect.inv (hs.withPort rest)

/-- Settles O2: nothing is written, and the cursor stands at `WPOS0`. -/
theorem invariantHoldsAtReset : Obligations.InvariantHoldsAtReset := by
  have hexact : State.reset.streamExact := fun a => by simp [Memory.read]
  exact ⟨List.Pairwise.nil, le_rfl, hexact, rfl⟩

/-! ## The latch -/

/-- A request that sets the latch raised, and did nothing else (R604). -/
theorem RequestEffect.raise_of_latch_set {s t : State} (h : RequestEffect s t) (hs : s.halted = false)
    (ht : t.halted = true) : ∃ op cause value, t = s.raise op cause value := by
  cases h with
  | refused => simp [hs] at ht
  | appended i => simp [hs] at ht
  | raised op cause value => exact ⟨op, cause, value, rfl⟩

/-- No request clears the latch (R606, R607). -/
theorem RequestEffect.halted_of_halted {s t : State} (h : RequestEffect s t) (hs : s.halted = true) :
    t.halted = true := by
  cases h with
  | refused => exact hs
  | appended i => exact hs
  | raised op cause value => rfl

/-- Settles O6: of the effects of a step only a request's raise sets the latch, and only a reset clears it. -/
theorem latchIsSetByRaiseOnlyAndClearedByResetOnly :
    Obligations.LatchIsSetByRaiseOnlyAndClearedByResetOnly := by
  intro s t hstep
  cases step_effect hstep with
  | waited => exact ⟨fun hs ht => by simp [hs] at ht, fun hs ht => by simp [hs] at ht⟩
  | reset rest hport => exact ⟨fun _ ht => by simp at ht, fun _ _ => ⟨rest, hport⟩⟩
  | request q rest t hport heffect =>
    refine ⟨fun hs ht => ?_, fun hs ht => ?_⟩
    · obtain ⟨op, cause, value, rfl⟩ := heffect.raise_of_latch_set hs ht
      exact ⟨q, rest, op, cause, value, hport, rfl⟩
    · exact absurd (heffect.halted_of_halted hs) (by simp [ht])

/-! ## The stream -/

/-- Byte `i` of the appended word stands at `4 * wpos + i` (R41, R42). -/
theorem State.read_append_word (s : State) (w : Word) {i : Nat} (hi : i < 4) :
    (s.append w).stream.read (4 * s.wpos + i) = some (wordByte s.byteOrder w i) := by
  rw [State.append_stream, Memory.read_writeWord, if_pos (by omega), Nat.add_sub_cancel_left]

/-- `Append` leaves every byte outside the word at the cursor (R41). -/
theorem State.read_append_of_outside (s : State) (w : Word) {a : Nat}
    (ha : a < 4 * s.wpos ∨ 4 * s.wpos + 4 ≤ a) :
    (s.append w).stream.read a = s.stream.read a := by
  rw [State.append_stream, Memory.read_writeWord, if_neg (by omega)]

/-- Settles O17: the bytes inside the word at the cursor, those outside it, and the rest of the state. -/
theorem appendWritesFourBytesAtTheCursorAndNothingElse :
    Obligations.AppendWritesFourBytesAtTheCursorAndNothingElse := by
  intro s w
  refine ⟨rfl, fun ho i hi => ?_, fun ho i hi => ?_, Memory.readWord_writeWord .., fun a ha => ?_, rfl⟩
  · rw [s.read_append_word w hi, ho, wordByte]
  · rw [s.read_append_word w hi, ho, wordByte, Nat.mul_sub]
  · exact s.read_append_of_outside w ha

/-- What a step may do to the sink and the parameters (R24, R25, R42, R50): at most the word at the cursor
is written, with the cursor one on, and the parameters stay. -/
structure SinkFrame (s t : State) : Prop where
  cursor : t.wpos = s.wpos ∧ t.stream = s.stream ∨ t.wpos = s.wpos + 1
  outside : ∀ a, a < 4 * s.wpos ∨ 4 * s.wpos + 4 ≤ a → t.stream.read a = s.stream.read a
  wpos0 : t.wpos0 = s.wpos0
  byteOrder : t.byteOrder = s.byteOrder
  formatTable : t.formatTable = s.formatTable

/-- A state with the same sink and parameters meets the frame. -/
theorem SinkFrame.of_eq {s t : State} (hpos : t.wpos = s.wpos) (hstream : t.stream = s.stream)
    (hpos0 : t.wpos0 = s.wpos0) (horder : t.byteOrder = s.byteOrder)
    (htable : t.formatTable = s.formatTable) : SinkFrame s t :=
  ⟨.inl ⟨hpos, hstream⟩, fun _ _ => by rw [hstream], hpos0, horder, htable⟩

/-- `Append` meets the frame. -/
theorem State.append_sinkFrame (s : State) (w : Word) : SinkFrame s (s.append w) :=
  ⟨.inr rfl, fun _ ha => s.read_append_of_outside w ha, rfl, rfl, rfl⟩

/-- A request meets the frame. -/
theorem RequestEffect.sinkFrame {s t : State} (h : RequestEffect s t) : SinkFrame s t := by
  cases h with
  | refused => exact .of_eq rfl rfl rfl rfl rfl
  | appended i => exact s.append_sinkFrame _
  | raised op cause value => exact .of_eq rfl rfl rfl rfl rfl

/-- A request does not touch the port it was taken from. -/
theorem RequestEffect.port_eq {s t : State} (h : RequestEffect s t) : t.port = s.port := by
  cases h <;> rfl

/-- A step meets the frame: waiting and a reset leave the sink (R630), a request meets it. -/
theorem StepEffect.sinkFrame {s t : State} (h : StepEffect s t) : SinkFrame s t := by
  cases h with
  | waited => exact .of_eq rfl rfl rfl rfl rfl
  | reset rest => exact .of_eq rfl rfl rfl rfl rfl
  | request q rest t _ heffect =>
    obtain ⟨hcursor, houtside, hpos0, horder, htable⟩ := heffect.sinkFrame
    exact ⟨hcursor, houtside, hpos0, horder, htable⟩

/-- A step takes the first entry of the port, if there is one (logs 7, 8 and 9). -/
theorem StepEffect.port_eq_tail {s t : State} (h : StepEffect s t) : t.port = s.port.tail := by
  cases h with
  | waited hport => rw [hport, List.tail_nil]
  | reset rest hport => rw [hport]; rfl
  | request q rest t hport heffect => rw [hport, heffect.port_eq, List.tail_cons]

/-- Settles O20: every effect of a step meets the frame and takes the first entry of the port. -/
theorem everyStepOnlyAppendsToTheStream : Obligations.EveryStepOnlyAppendsToTheStream := by
  intro s t hstep
  have heffect := step_effect hstep
  obtain ⟨hcursor, houtside, hpos0, horder, htable⟩ := heffect.sinkFrame
  exact ⟨hcursor, houtside, hpos0, horder, htable, heffect.port_eq_tail⟩

/-! ## Reset and raise, field by field -/

/-- Settles O1: the values at reset, and the empty stream read at any address. -/
theorem resetClearsLatchAndCauseAndListsNoByte :
    Obligations.ResetClearsLatchAndCauseAndListsNoByte :=
  ⟨State.reset_halted, State.reset_cause, fun a => by rw [State.reset_stream, Memory.read]⟩

/-- What the status port shows after a raise (R23, R604). -/
theorem State.faultStatus_raise (s : State) (op : OpCode) (c : Cause) (v : BitVec 32) :
    (s.raise op c v).faultStatus = ⟨true, Cause.toCode c, op, v⟩ := rfl

/-- Settles O18: the codes are those of `Cause.toCode` (R601), and the fields a raise does not write stay. -/
theorem raiseRecordsTheDiagnosticAndNothingElse :
    Obligations.RaiseRecordsTheDiagnosticAndNothingElse := by
  intro s op value
  have hstatus := fun cause => s.faultStatus_raise op cause value
  exact ⟨hstatus .elementSize, hstatus .operandRange, hstatus .aliasing, hstatus .immediateRange,
    hstatus .addressingMode, fun _ => rfl⟩

end Sys2Proof.Machine
end

section
/-! The word that the default table builds for a legal request is the encoder's (R164, log 10): field by field
the two place the same number, and the packer's selectors make up the rest of the encoder's fixed bits. -/

namespace Sys2Proof.Machine

/-! ## The encoder's fields as the numbers that a packer places

Literals are written as bit vectors, the form in which `BitVec.ofNat_eq_ofNat` leaves the encoder's. -/

theorem shiftLeft_toNat_eq_place {n : Nat} (x : BitVec n) (low : Nat) :
    BitVec.ofNat 32 x.toNat <<< low = place x low := by
  rw [BitVec.ofNat_toNat, place]

/-- A constant in a field of its own, as the contiguous loads of one size have it (R76). -/
theorem place_ofNat (n k low : Nat) :
    place (BitVec.ofNat n k) low = (BitVec.ofNat n k).setWidth 32 <<< low := rfl

theorem place_lowPredicate {pg : GovPred} (h : lowPredicate pg = true) (low : Nat) :
    place (pg.idx.setWidth 3) low = place pg.idx low := by
  rw [place, lowPredicate_setWidth (of_decide_eq_true h), place]

theorem place_setWidth_of_inInterval {hi : Int} {imm : ReqInt} (h : inInterval 0 hi imm = true)
    {n : Nat} (hn : hi < 2 ^ n) (low : Nat) : place (imm.setWidth n) low = place imm low := by
  obtain ⟨-, hle⟩ := (inInterval_zero_iff hi imm).1 h
  have hlt : imm.toNat < 2 ^ n := by exact_mod_cast hle.trans_lt hn
  unfold place
  congr 1
  apply BitVec.eq_of_toNat_eq
  simp only [BitVec.toNat_setWidth, Nat.mod_eq_of_lt hlt]

theorem place_sizeField (size : ReqInt) (low : Nat) :
    place (sizeField size) low = BitVec.ofNat 32 (sizecode size) <<< low := by
  rw [place, sizeField_setWidth]

theorem place_sizeField4 (size : ReqInt) (low : Nat) :
    place (sizeField4 size) low = BitVec.ofNat 32 (sizecode size) <<< low := by
  rw [place, sizeField4_setWidth]

/-- The code of a narrow size (R419). -/
theorem place_sizeField_succ {size : ReqInt} (h : legalSize [8, 16, 32] size = true) (low : Nat) :
    place (sizeField size + 1#2) low = BitVec.ofNat 32 (sizecode size + 1) <<< low := by
  simp only [legalSize_eq, decide_eq_true_eq, List.mem_cons, List.not_mem_nil, or_false] at h
  rcases h with rfl | rfl | rfl <;> rfl

/-- The sums and differences of `dtype` (R76). -/
theorem place_dtype (size : ReqInt) (low : Nat) :
    place (0b0100#4 + sizeField4 size) low = BitVec.ofNat 32 (0b0100 + sizecode size) <<< low ∧
    place (0b1000#4 + sizeField4 size) low = BitVec.ofNat 32 (0b1000 + sizecode size) <<< low ∧
    place (0b1011#4 - sizeField4 size) low = BitVec.ofNat 32 (0b1011 - sizecode size) <<< low ∧
    place (0b1111#4 - sizeField4 size) low = BitVec.ofNat 32 (0b1111 - sizecode size) <<< low := by
  unfold sizeField4
  rcases sizecode_cases size with h | h | h | h <;> rw [h] <;> exact ⟨rfl, rfl, rfl, rfl⟩

theorem place_ofInt (k : Nat) (imm : ReqInt) (low : Nat) :
    place (BitVec.ofInt k imm.toInt) low = BitVec.ofNat 32 (modField imm (2 ^ k)) <<< low := by
  rw [place, modField_ofInt]

theorem place_ofInt_div (n : Int) (imm : ReqInt) (low : Nat) :
    place (BitVec.ofInt 4 (imm.toInt / n)) low = BitVec.ofNat 32 (scaledField imm n) <<< low := by
  rw [place, scaledField_ofInt]

theorem place_oddRotation (rot : ReqInt) (low : Nat) :
    place (BitVec.ofBool (rot == 270#32)) low = BitVec.ofNat 32 (oddRotation rot) <<< low := by
  cases h : rot == 270#32 <;> simp_all [place, oddRotation]

theorem place_rotation {rot : ReqInt} (h : legalRotation [0, 90, 180, 270] rot = true) (low : Nat) :
    place ((rot / 90#32).setWidth 2) low = BitVec.ofNat 32 (rot.toNat / 90) <<< low := by
  simp only [legalRotation_eq, decide_eq_true_eq, List.mem_cons, List.not_mem_nil, or_false] at h
  rcases h with rfl | rfl | rfl | rfl <;> rfl

theorem place_mergeBit (pg : GovPred) (low : Nat) :
    place (BitVec.ofBool (pg.style == 1#2)) low = BitVec.ofNat 32 (mergeBit pg) <<< low := by
  cases h : pg.style == 1#2 <;> simp_all [place, mergeBit]

theorem place_fcvtCode (dsize ssize : ReqInt) (low : Nat) :
    place (fcvtCode dsize ssize).1 low = BitVec.ofNat 32 (fcvtTable dsize ssize).1 <<< low ∧
    place (fcvtCode dsize ssize).2 low = BitVec.ofNat 32 (fcvtTable dsize ssize).2 <<< low := by
  obtain ⟨hopc, hopc2⟩ := fcvtCode_setWidth dsize ssize
  exact ⟨by rw [place, hopc], by rw [place, hopc2]⟩

/-- The lowest bit of the codec's `high` (R67), in the two spellings of the model. -/
theorem place_lowBit (high : BitVec 2) (low : Nat) :
    place (high.setWidth 1) low = place (high.extractLsb' 0 1) low := by
  rw [BitVec.setWidth_eq_extractLsb' (by decide)]

/-! ## A row's word, its selectors apart from its operands -/

/-- The bits that the selectors of a row set (R164): its constants, each at its field. -/
def selectorWord : List (FieldName × FieldValue) → List Field → Word
  | (_, .const n) :: values, x :: fields => BitVec.ofNat 32 n <<< x.low ||| selectorWord values fields
  | (_, .expr _) :: values, _ :: fields => selectorWord values fields
  | _, _ => 0#32

/-- A word with the operands of a row ORed in, each at its field; the selectors are passed over. -/
def orOperands (k : Word) : List (FieldName × FieldValue) → List Field → Word
  | (_, .const _) :: values, _ :: fields => orOperands k values fields
  | (_, .expr n) :: values, x :: fields => orOperands (k ||| BitVec.ofNat 32 n <<< x.low) values fields
  | _, _ => k

/-- Packing the values of a row is packing its selectors first and its operands then (R164). -/
theorem Format.pack_eq_orOperands {v : FieldName → Nat} {values : List (FieldName × FieldValue)}
    {fields : List Field} (h : List.Forall₂ (fun y x => v x.name = y.2.num) values fields) (k : Word) :
    (Format.mk k fields).pack v = orOperands (k ||| selectorWord values fields) values fields := by
  induction h generalizing k with
  | nil => exact BitVec.or_zero.symm
  | @cons y x values fields hv _ ih =>
    obtain ⟨name, value⟩ := y
    rw [Format.pack_cons, ih, hv]
    cases value with
    | const n => simp only [orOperands, selectorWord, FieldValue.num_const, BitVec.or_assoc]
    | expr n => simp only [orOperands, selectorWord, FieldValue.num_expr, BitVec.or_assoc,
        BitVec.or_comm (BitVec.ofNat 32 n <<< x.low)]

/-- A row in the order of its packer's fields, no two of one name, gives each field its own value. -/
theorem FitsInOrder.value_eq {values : List (FieldName × FieldValue)} {fields : List Field}
    (h : FitsInOrder values fields) (hn : (fields.map Field.name).Nodup) {n : FormatName}
    {v : FieldName → Nat} (hv : ∀ x ∈ fields, v x.name = (Placement.mk n values).value x.name) :
    List.Forall₂ (fun y x => v x.name = y.2.num) values fields := by
  unfold FitsInOrder at h
  induction h with
  | nil => exact .nil
  | @cons y x values fields hy _ ih =>
    obtain ⟨name, value⟩ := y
    obtain ⟨rfl, -⟩ := hy
    obtain ⟨hx, hn⟩ := List.nodup_cons.1 hn
    obtain ⟨hvx, hv⟩ := List.forall_mem_cons.1 hv
    refine .cons (hvx.trans (Placement.value_cons_self ..)) (ih hn fun z hz => ?_)
    have hne : z.name ≠ x.name := fun he => hx (he ▸ List.mem_map_of_mem hz)
    rw [hv z hz, Placement.value_cons_of_ne n hne]

/-- The word of a placement in the order of its default packer: the skeleton, the selectors, the operands. -/
def Placement.rowWord (p : Placement) : Word :=
  orOperands ((Formats.default p.packer).skeleton ||| selectorWord p.values (Formats.default p.packer).fields)
    p.values (Formats.default p.packer).fields

/-- A placement in the order of its default packer packs to its row's word. -/
theorem FitsInOrder.pack_eq_rowWord {p : Placement}
    (h : FitsInOrder p.values (Formats.default p.packer).fields) :
    (Formats.default p.packer).pack p.value = p.rowWord :=
  Format.pack_eq_orOperands (h.value_eq (Formats.default_names_nodup _) (fun _ _ => rfl)) _

/-- A row and a packer written out give the word, where the encoder's is written out too. -/
theorem Placement.rowWord_eq_of_eq {p : Placement} {n : FormatName}
    {values : List (FieldName × FieldValue)} {fields : List Field} {k w a b : Word}
    (hp : p = ⟨n, values⟩) (hf : Formats.default n = ⟨k, fields⟩) (hw : w = a ||| b)
    (h : orOperands (k ||| selectorWord values fields) values fields = a ||| b) : p.rowWord = w := by
  subst hp hw
  rwa [Placement.rowWord, hf]

/-- For every operation the selectors complete the skeleton to the encoder's fixed bits, and the operands
stand where the encoder places them: the numbers of the two agree by the lemmas above. -/
theorem rowWord_placement {i : Instr} (h : i.wellFormed = true) : i.placement.rowWord = i.encode := by
  cases i
  case setffr => rfl
  all_goals
    refine Placement.rowWord_eq_of_eq rfl rfl rfl ?_
    simp only [Instr.wellFormed, Bool.and_eq_true, BitVec.ofNat_eq_ofNat] at h
    simp only [orOperands, selectorWord]
    simp only [shiftLeft_toNat_eq_place, place_ofNat, place_lowPredicate,
      place_setWidth_of_inInterval (hi := 31), place_setWidth_of_inInterval (hi := 127),
      place_sizeField, place_sizeField4, place_sizeField_succ, place_dtype, place_ofInt,
      place_ofInt_div, place_oddRotation, place_rotation, place_mergeBit, place_fcvtCode,
      place_lowBit, h, BitVec.ofNat_eq_ofNat, BitVec.reduceOr, BitVec.reduceHShiftLeft,
      BitVec.reduceSetWidth, Int.reducePow, Int.reduceLT]

/-- The word that the default table builds for a legal request is the encoder's (R164; log 10). -/
theorem FormatTable.default_word_eq_encode {i : Instr} (h : i.wellFormed = true) :
    FormatTable.default.word i.op i.placement = i.encode := by
  rw [FormatTable.default_word, (placement_fitsInOrder h).pack_eq_rowWord, rowWord_placement h]

/-- In a run with the default table the word of a legal request is the encoder's. -/
theorem State.wordOf_eq_encode {s : State} (ht : s.formatTable = FormatTable.default) {i : Instr}
    (h : i.wellFormed = true) : s.wordOf i = i.encode := by
  rw [State.wordOf, ht, FormatTable.default_word_eq_encode h]

end Sys2Proof.Machine
end

section
/-! A run of legal requests (R47, R160): one append per request, in order. -/

namespace Sys2Proof.Machine

/-! ## Several words appended -/

/-- `Append` of several words, one after the other (R41). -/
def State.appendAll (s : State) (ws : List Word) : State := ws.foldl State.append s

@[simp] theorem State.appendAll_nil (s : State) : s.appendAll [] = s := rfl

@[simp] theorem State.appendAll_cons (s : State) (w : Word) (ws : List Word) :
    s.appendAll (w :: ws) = (s.append w).appendAll ws := rfl

@[simp] theorem State.appendAll_wpos (s : State) (ws : List Word) :
    (s.appendAll ws).wpos = s.wpos + ws.length := by
  induction ws generalizing s with
  | nil => rfl
  | cons w ws ih => rw [State.appendAll_cons, ih, State.append_wpos, List.length_cons]; omega

/-- Only the cursor and the stream change. -/
theorem State.appendAll_frame (s : State) (ws : List Word) :
    { s.appendAll ws with wpos := s.wpos, stream := s.stream } = s := by
  induction ws generalizing s with
  | nil => rfl
  | cons w ws ih =>
    exact congrArg (fun t : State => { t with wpos := s.wpos, stream := s.stream }) (ih (s.append w))

@[simp] theorem State.appendAll_halted (s : State) (ws : List Word) :
    (s.appendAll ws).halted = s.halted := (congrArg State.halted (s.appendAll_frame ws) :)
@[simp] theorem State.appendAll_port (s : State) (ws : List Word) :
    (s.appendAll ws).port = s.port := (congrArg State.port (s.appendAll_frame ws) :)
@[simp] theorem State.appendAll_wpos0 (s : State) (ws : List Word) :
    (s.appendAll ws).wpos0 = s.wpos0 := (congrArg State.wpos0 (s.appendAll_frame ws) :)
@[simp] theorem State.appendAll_byteOrder (s : State) (ws : List Word) :
    (s.appendAll ws).byteOrder = s.byteOrder := (congrArg State.byteOrder (s.appendAll_frame ws) :)

/-- The bytes below the cursor stay. -/
theorem State.read_appendAll_of_lt (s : State) (ws : List Word) {a : Nat} (ha : a < 4 * s.wpos) :
    (s.appendAll ws).stream.read a = s.stream.read a := by
  induction ws generalizing s with
  | nil => rfl
  | cons w ws ih =>
    have hlt : a < 4 * (s.append w).wpos := by rw [State.append_wpos]; omega
    exact (ih (s.append w) hlt).trans (s.read_append_of_outside w (.inl ha))

/-- The words below the cursor stay. -/
theorem State.readWord_appendAll_of_lt (s : State) (ws : List Word) (order : ByteOrder) {k : Nat}
    (hk : k < s.wpos) : (s.appendAll ws).stream.readWord order k = s.stream.readWord order k := by
  simp (disch := omega) only [Memory.readWord, State.read_appendAll_of_lt]

/-- Word `k` of those appended stands `k` words above the old cursor (R41). -/
theorem State.readWord_appendAll (s : State) (ws : List Word) {k : Nat} (hk : k < ws.length) :
    (s.appendAll ws).stream.readWord s.byteOrder (s.wpos + k) = some ws[k] := by
  induction ws generalizing s k with
  | nil => exact absurd hk (Nat.not_lt_zero k)
  | cons w ws ih =>
    rw [State.appendAll_cons]
    cases k with
    | zero =>
      rw [Nat.add_zero, State.readWord_appendAll_of_lt _ _ _ (Nat.lt_succ_self s.wpos),
        State.append_stream, Memory.readWord_writeWord, List.getElem_cons_zero]
    | succ k =>
      have hword := ih (s.append w) (Nat.lt_of_succ_lt_succ hk)
      rwa [State.append_wpos, State.append_byteOrder, Nat.add_assoc, Nat.add_comm 1] at hword

/-- Begun at `WPOS0`, the result is the words appended (R638). -/
theorem State.resultWords_appendAll {s : State} (h : s.wpos = s.wpos0) (ws : List Word) :
    (s.appendAll ws).resultWords = ws.map some := by
  unfold State.resultWords
  rw [State.appendAll_wpos, State.appendAll_wpos0, State.appendAll_byteOrder, ← h, Nat.add_sub_cancel_left]
  refine List.ext_getElem (by simp) fun k _ hk => ?_
  rw [List.length_map] at hk
  rw [List.getElem_map, List.getElem_range, s.readWord_appendAll ws hk, List.getElem_map]

/-! ## The run -/

/-- The step of a legal request that stands first on the port. -/
theorem step_of_wellFormed {s : State} {i : Instr} {v : ScalarViews} {rest : List PortEvent}
    (hs : s.halted = false) (hi : i.wellFormed = true) (hport : s.port = .request (.direct i v) :: rest) :
    step s = .next (State.append { s with port := rest } (s.wordOf i)) := by
  rw [step_direct hport, exec_of_wellFormed (s := { s with port := rest }) hs hi]
  rfl

/-- A run over the legal requests that stand first on the port appends their words in order and leaves the
rest of the port. -/
theorem run_of_wellFormed {qs : List (Instr × ScalarViews)} {s : State} {rest : List PortEvent}
    (hs : s.halted = false) (hqs : ∀ q ∈ qs, q.1.wellFormed = true)
    (hport : s.port = qs.map (fun q => PortEvent.request (.direct q.1 q.2)) ++ rest) :
    Host.Core.run Sys2Proof.core qs.length s =
      .next (State.appendAll { s with port := rest } (qs.map (fun q => s.wordOf q.1))) := by
  induction qs generalizing s with
  | nil => rw [List.map_nil, List.nil_append] at hport; subst hport; rfl
  | cons q qs ih =>
    obtain ⟨hq, hqs⟩ := List.forall_mem_cons.1 hqs
    exact (run_succ Sys2Proof.core _ s _ (step_of_wellFormed hs hq hport)).trans (ih hs hqs rfl)

/-- Settles O21: the run is the append of the requests' words, which the stream then holds in order; under the
default table they are the encoder's. -/
theorem aRunOfLegalRequestsAppendsTheirWordsInOrder :
    Obligations.ARunOfLegalRequestsAppendsTheirWordsInOrder := by
  intro s qs hs hqs hport
  have hrun := run_of_wellFormed hs hqs (hport.trans (List.append_nil _).symm)
  refine ⟨_, hrun, ⟨?_, ?_⟩, ?_, fun k hk => ?_, fun a ha => ?_, fun hpos => ?_, fun ht q hq => ?_⟩
  · rw [State.appendAll_port]
  · rw [State.appendAll_halted]; exact hs
  · rw [State.appendAll_wpos, List.length_map]
  · have hword := State.readWord_appendAll { s with port := [] } (qs.map fun q => s.wordOf q.1)
      (k := k) (by rwa [List.length_map])
    rwa [List.getElem_map] at hword
  · exact State.read_appendAll_of_lt { s with port := [] } _ ha
  · rw [State.resultWords_appendAll (s := { s with port := [] }) hpos, List.map_map]; rfl
  · exact State.wordOf_eq_encode ht (hqs q hq)

end Sys2Proof.Machine
end

section
/-! What every step and every request answers (R637), what can change the sink (R86), and the dispatch of a
polymorphic request (R167, R318). -/

namespace Sys2Proof.Machine

/-! ## One step -/

/-- Settles O9: an illegal request fails one of its checks, and the first that fails is raised. -/
theorem everyIllegalRequestRaisesAndAppendsNothing :
    Obligations.EveryIllegalRequestRaisesAndAppendsNothing :=
  fun _ _ hs hi => exec_of_not_wellFormed hs hi

/-- A request of one of the 287 operations answers a next state. -/
theorem exec_answers (i : Instr) (s : State) : ∃ t, exec i s = .next t := by
  rcases exec_cases i s with ⟨-, he⟩ | ⟨-, -, he⟩ | ⟨-, -, cause, value, he⟩ <;> exact ⟨_, he⟩

/-- A polymorphic request answers a next state, whatever its tag. -/
theorem execPolymorphic_answers (p : PolyOp) (size : ReqInt) (zt : VReg) (pg : GovPred)
    (mem : MemoryOperand) (s : State) : ∃ t, execPolymorphic p size zt pg mem s = .next t := by
  cases mem with
  | scalarScalar rn rm =>
    obtain ⟨t, he⟩ := exec_answers (p.scalarScalar size zt pg rn rm) s
    exact ⟨_, execForwarded_next he⟩
  | scalarImm rn imm =>
    obtain ⟨t, he⟩ := exec_answers (p.scalarImm size zt pg rn imm) s
    exact ⟨_, execForwarded_next he⟩
  | scalarVector rn zm => exact ⟨_, execUnwired_eq ..⟩
  | vectorImm zn imm => exact ⟨_, execUnwired_eq ..⟩

/-- A step answers a next state, whatever stands first on the port. -/
theorem step_answers (s : State) : ∃ t, step s = .next t := by
  match hport : s.port with
  | [] => exact ⟨_, step_idle hport⟩
  | .reset :: rest => exact ⟨_, step_reset hport⟩
  | .request (.direct i v) :: rest => rw [step_direct hport]; exact exec_answers ..
  | .request (.polymorphic p size zt pg mem v) :: rest =>
    rw [step_polymorphic hport]
    exact execPolymorphic_answers ..
  | .request (.unadmitted code) :: rest => exact ⟨_, step_unadmitted hport⟩

/-- Settles O27: every kind of entry of the port has its next state, and two of them are written out. -/
theorem everyStepAnswersANextState : Obligations.EveryStepAnswersANextState :=
  ⟨step_answers, fun _ => step_idle, fun _ _ _ => step_unadmitted⟩

/-- A request that changes the stream or the cursor appended the word of a legal request. -/
theorem RequestEffect.append_of_sink_changed {s t : State} (h : RequestEffect s t)
    (hsink : t.stream ≠ s.stream ∨ t.wpos ≠ s.wpos) :
    ∃ i : Instr, i.wellFormed = true ∧ t = s.append (s.wordOf i) := by
  cases h with
  | refused => simp at hsink
  | appended i hs hi => exact ⟨i, hi, rfl⟩
  | raised op cause value hs => simp at hsink

/-- Settles O19: waiting and a reset leave the sink, and of a request's effects only the append changes it. -/
theorem onlyWordsOfLegalRequestsAreAppended : Obligations.OnlyWordsOfLegalRequestsAreAppended := by
  intro s t hstep hsink
  cases step_effect hstep with
  | waited => simp at hsink
  | reset rest => simp at hsink
  | request q rest t hport heffect =>
    obtain ⟨i, hi, rfl⟩ := heffect.append_of_sink_changed hsink
    exact ⟨i, hi, by rw [hport]; rfl, fun ht => State.wordOf_eq_encode ht hi⟩

/-! ## The dispatch of a polymorphic request -/

/-- Forwarding to an operation (R167): its word where it is legal, and otherwise its raise, recorded under
one of the two names (log 6). -/
theorem forwards_of_execForwarded {p : PolyOp} {size : ReqInt} {zt : VReg} {pg : GovPred}
    {mem : MemoryOperand} {i : Instr}
    (h : ∀ s, execPolymorphic p size zt pg mem s = execForwarded p i s) :
    Forwards p size zt pg mem i := by
  refine fun s hs => ⟨fun hi => ?_, fun hi => ?_⟩
  · rw [h, execForwarded_next (exec_of_wellFormed hs hi)]
    simp [hs]
  · obtain ⟨cause, value, he⟩ := exec_of_not_wellFormed hs hi
    refine ⟨cause, value, forwardedName p i.op, he, (forwardedName_cases p i.op).symm, ?_⟩
    rw [h, execForwarded_next he]
    simp [hs, State.raise]

/-- An unwired tag raises its code under the polymorphic name (R84). -/
theorem execUnwired_raises {p : PolyOp} {mem : MemoryOperand} {s : State} (hs : s.halted = false) :
    execUnwired p mem s = .next (s.raise p.code .addressingMode (mem.tag.setWidth 32)) := by
  simp [execUnwired_eq, hs]

/-- Settles O16: the two wired tags are forwarded to the operations of R318, the two others raise. -/
theorem polymorphicRequestsForwardOrRaiseAddressingMode :
    Obligations.PolymorphicRequestsForwardOrRaiseAddressingMode := by
  refine ⟨fun size zt pg rn rm => ?_, fun size zt pg rn imm => ?_,
    fun p _ _ _ rn zm s hs => execUnwired_raises hs, fun p _ _ _ zn imm s hs => execUnwired_raises hs⟩
  · have hss : ∀ p : PolyOp, Forwards p size zt pg (.scalarScalar rn rm) (p.scalarScalar size zt pg rn rm) :=
      fun _ => forwards_of_execForwarded fun _ => rfl
    exact ⟨hss .ld1b, hss .ld1sw, hss .ld1h, hss .ld1sh, hss .ld1w, hss .ld1sb, hss .ld1d, hss .st1b,
      hss .st1h, hss .st1w, hss .st1d⟩
  · have hsi : ∀ p : PolyOp, Forwards p size zt pg (.scalarImm rn imm) (p.scalarImm size zt pg rn imm) :=
      fun _ => forwards_of_execForwarded fun _ => rfl
    exact ⟨hsi .ld1b, hsi .ld1sw, hsi .ld1h, hsi .ld1sh, hsi .ld1w, hsi .ld1sb, hsi .ld1d, hsi .st1b,
      hsi .st1h, hsi .st1w, hsi .st1d⟩

end Sys2Proof.Machine
end

section
/-! The tables of the model checked as they stand: the 59 packers and the operations' rows (R78), and the
patterns of the decoder (R76, R79). -/

namespace Sys2Proof.Machine

/-! ## The default table -/

/-- Every packer named is one of the 59. -/
theorem Formats.default_mem_all (n : FormatName) : Formats.default n ∈ Formats.all := by
  cases n <;> simp [Formats.all, Formats.default]

/-- R78 (a) and (b) for each of the 59 packers. -/
theorem Formats.wellFormed_of_mem_all {f : Format} (h : f ∈ Formats.all) : f.wellFormed = true := by
  have hall : Formats.all.all Format.wellFormed = true := by decide +kernel
  exact List.all_eq_true.1 hall f h

/-- R78 (c): every operation's row names the fields of its packer, in the field map's order. -/
theorem placement_names (i : Instr) : i.placement.values.map Prod.fst =
    (Formats.default i.placement.packer).fields.map Field.name := by
  cases i <;> rfl

/-- A name that stands in a row has a value there. -/
theorem lookup_isSome_of_mem {values : List (FieldName × FieldValue)} {f : FieldName}
    (h : f ∈ values.map Prod.fst) : (values.lookup f).isSome = true := by
  obtain ⟨v, hv, rfl⟩ := List.mem_map.1 h
  rw [List.lookup_isSome_iff]
  exact ⟨v, hv, beq_self_eq_true _⟩

/-- The default table is well formed as any table is to be (R78). -/
theorem FormatTable.default_wellFormed : FormatTable.default.wellFormed := by
  refine ⟨fun n => Formats.wellFormed_of_mem_all (Formats.default_mem_all n), fun i => ?_⟩
  refine List.all_eq_true.2 fun x hx => lookup_isSome_of_mem ?_
  rw [FormatTable.default_placement, placement_names]
  exact List.mem_map_of_mem hx

/-- Settles O25. -/
theorem theDefaultFormatTableIsWellFormed : Obligations.TheDefaultFormatTableIsWellFormed :=
  ⟨rfl, fun f hf => f.wellFormed_iff.1 (Formats.wellFormed_of_mem_all hf), Formats.default_mem_all,
    placement_names, FormatTable.default_wellFormed⟩

/-! ## The patterns -/

/-- Settles O13. -/
theorem patternsWithDtypeDifferOnABitFixedInBoth :
    Obligations.PatternsWithDtypeDifferOnABitFixedInBoth := by
  show patterns.Pairwise _
  decide +kernel

end Sys2Proof.Machine
end

section
/-! The shift-field codec (R65 to R69): its closed form, and reading the size and the shift back. -/

namespace Sys2Proof.Machine

/-- `InverseShift` of a legal shift lies in `[0, 2 * size)` (R65, R66). -/
theorem inverseShift_range {size shift : Int} {left : Bool}
    (h : if left then 0 ≤ shift ∧ shift < size else 0 < shift ∧ shift ≤ size) :
    0 ≤ inverseShift size shift left ∧ inverseShift size shift left < 2 * size := by
  cases left <;> simp [inverseShift] at h ⊢ <;> omega

/-- The number that the codec's three fields write together (R68). -/
def ShiftTriple.code (t : ShiftTriple) : BitVec 7 := t.high ++ t.low ++ t.res

/-- The lookup of R67, size by size: the size's bit over the low bits of `InverseShift`. -/
theorem shiftFields_code_toNat {size : Int} (hsize : size ∈ [(8 : Int), 16, 32, 64]) (shift : Int)
    (left : Bool) : ((shiftFields size shift left).code.toNat : Int) =
      size + (BitVec.ofInt 7 (inverseShift size shift left)).toNat % size := by
  have h8 : ∀ is : BitVec 7, (ShiftTriple.code ⟨0b00, 0b01, is.extractLsb' 0 3⟩).toNat =
      8 + is.toNat % 8 := by decide +kernel
  have h16 : ∀ is : BitVec 7, (ShiftTriple.code ⟨0b00, 0b1#1 ++ is.extractLsb' 3 1,
      is.extractLsb' 0 3⟩).toNat = 16 + is.toNat % 16 := by decide +kernel
  have h32 : ∀ is : BitVec 7, (ShiftTriple.code ⟨0b01, is.extractLsb' 3 2,
      is.extractLsb' 0 3⟩).toNat = 32 + is.toNat % 32 := by decide +kernel
  have h64 : ∀ is : BitVec 7, (ShiftTriple.code ⟨0b1#1 ++ is.extractLsb' 5 1, is.extractLsb' 3 2,
      is.extractLsb' 0 3⟩).toNat = 64 + is.toNat % 64 := by decide +kernel
  simp only [List.mem_cons, List.not_mem_nil, or_false] at hsize
  rcases hsize with rfl | rfl | rfl | rfl
  · exact_mod_cast h8 (BitVec.ofInt 7 (inverseShift 8 shift left))
  · exact_mod_cast h16 (BitVec.ofInt 7 (inverseShift 16 shift left))
  · exact_mod_cast h32 (BitVec.ofInt 7 (inverseShift 32 shift left))
  · exact_mod_cast h64 (BitVec.ofInt 7 (inverseShift 64 shift left))

/-- R68: the code is the size over `InverseShift` modulo the size. -/
theorem shiftFields_code {size shift : Int} {left : Bool} (hsize : size ∈ [(8 : Int), 16, 32, 64])
    (h : if left then 0 ≤ shift ∧ shift < size else 0 < shift ∧ shift ≤ size) :
    ((shiftFields size shift left).code.toNat : Int) = size + inverseShift size shift left % size := by
  obtain ⟨hlo, hhi⟩ := inverseShift_range h
  have h64 : size ≤ 64 := by
    simp only [List.mem_cons, List.not_mem_nil, or_false] at hsize
    omega
  rw [shiftFields_code_toNat hsize, BitVec.toNat_ofInt, Int.emod_eq_of_lt hlo (by push_cast; omega),
    Int.toNat_of_nonneg hlo]

/-- The code of a left shift and of a right one (R68). -/
theorem shiftFields_code_eq {size shift : Int} {left : Bool} (hsize : size ∈ [(8 : Int), 16, 32, 64])
    (h : if left then 0 ≤ shift ∧ shift < size else 0 < shift ∧ shift ≤ size) :
    ((shiftFields size shift left).code.toNat : Int) =
      if left then size + shift else 2 * size - shift := by
  rw [shiftFields_code hsize h]
  cases left with
  | true =>
    obtain ⟨hlo, hhi⟩ : 0 ≤ shift ∧ shift < size := h
    simp only [inverseShift, if_true, Int.emod_eq_of_lt hlo hhi]
  | false =>
    obtain ⟨hlo, hhi⟩ : 0 < shift ∧ shift ≤ size := h
    have hmod : (2 * size - shift) % size = size - shift := by
      rw [show 2 * size - shift = size - shift + size by ring, Int.add_emod_right,
        Int.emod_eq_of_lt (by omega) (by omega)]
    simp only [inverseShift, Bool.false_eq_true, if_false, hmod]
    ring

/-- Settles O23. -/
theorem shiftCodecHasTheClosedForm : Obligations.ShiftCodecHasTheClosedForm := by
  intro size hsize shift left h
  have hcode := shiftFields_code_eq hsize h
  refine ⟨shiftFields_code hsize h, hcode, hcode.symm ▸ ?_, hcode.symm ▸ ?_⟩ <;>
    cases left <;> simp at h ⊢ <;> omega

/-- The codec size is read from a code at or above it and below twice it (R69). -/
theorem codecSize_toInt {v : BitVec 7} {size : Int} (hsize : size ∈ [(8 : Int), 16, 32, 64])
    (hlo : size ≤ v.toNat) (hhi : (v.toNat : Int) < 2 * size) : (codecSize v).toInt = size := by
  have h : ∀ v : BitVec 7, ∀ size ∈ [(8 : Int), 16, 32, 64], size ≤ v.toNat →
      (v.toNat : Int) < 2 * size → (codecSize v).toInt = size := by decide +kernel
  exact h v size hsize hlo hhi

theorem leftShiftOf_toInt : ∀ v : BitVec 7, (leftShiftOf v).toInt = v.toNat - (codecSize v).toInt := by
  decide +kernel

theorem rightShiftOf_toInt :
    ∀ v : BitVec 7, (rightShiftOf v).toInt = 2 * (codecSize v).toInt - v.toNat := by
  decide +kernel

/-- R69: the size and the shift of a left shift are read back from its triple. -/
theorem shiftFields_left_recovered {size shift : Int} (hsize : size ∈ [(8 : Int), 16, 32, 64])
    (hlo : 0 ≤ shift) (hhi : shift < size) :
    (codecSize (shiftFields size shift true).code).toInt = size ∧
      (leftShiftOf (shiftFields size shift true).code).toInt = shift := by
  have hcode := shiftFields_code_eq (left := true) hsize ⟨hlo, hhi⟩
  rw [if_pos rfl] at hcode
  have hcodec := codecSize_toInt hsize (v := (shiftFields size shift true).code) (by omega) (by omega)
  exact ⟨hcodec, by rw [leftShiftOf_toInt, hcodec, hcode]; omega⟩

/-- R69: the size and the shift of a right shift are read back from its triple. -/
theorem shiftFields_right_recovered {size shift : Int} (hsize : size ∈ [(8 : Int), 16, 32, 64])
    (hlo : 0 < shift) (hhi : shift ≤ size) :
    (codecSize (shiftFields size shift false).code).toInt = size ∧
      (rightShiftOf (shiftFields size shift false).code).toInt = shift := by
  have hcode := shiftFields_code_eq (left := false) hsize ⟨hlo, hhi⟩
  rw [if_neg Bool.false_ne_true] at hcode
  have hcodec := codecSize_toInt hsize (v := (shiftFields size shift false).code) (by omega) (by omega)
  exact ⟨hcodec, by rw [rightShiftOf_toInt, hcodec, hcode]; omega⟩

/-- The three fields of a triple are read back from the number they write. -/
theorem ShiftTriple.eq_of_code (t : ShiftTriple) :
    t = ⟨t.code.extractLsb' 5 2, t.code.extractLsb' 3 2, t.code.extractLsb' 0 3⟩ := by
  have h : ∀ (a b : BitVec 2) (c : BitVec 3), (ShiftTriple.mk a b c) =
    ⟨(a ++ b ++ c).extractLsb' 5 2, (a ++ b ++ c).extractLsb' 3 2, (a ++ b ++ c).extractLsb' 0 3⟩ := by
    decide +kernel
  exact h t.high t.low t.res

theorem ShiftTriple.eq_of_code_eq {t t' : ShiftTriple} (h : t.code = t'.code) : t = t' := by
  rw [t.eq_of_code, t'.eq_of_code, h]

/-- Settles O24: recovery is `shiftFields_left_recovered` and `shiftFields_right_recovered`, uniqueness follows
from it, and the triples of the two directions agree because their numbers do. -/
theorem shiftCodecIsRecoverableWithTheDirectionFixed :
    Obligations.ShiftCodecIsRecoverableWithTheDirectionFixed := by
  refine ⟨fun size hsize shift => ⟨shiftFields_left_recovered hsize, shiftFields_right_recovered hsize⟩,
    fun size hsize size' hsize' shift shift' => ⟨fun hlo hhi hlo' hhi' heq => ?_,
      fun hlo hhi hlo' hhi' heq => ?_⟩, fun size hsize shift hlo hhi => ?_⟩
  · obtain ⟨hs, hsh⟩ := shiftFields_left_recovered hsize hlo hhi
    obtain ⟨hs', hsh'⟩ := shiftFields_left_recovered hsize' hlo' hhi'
    rw [heq] at hs hsh
    exact ⟨hs.symm.trans hs', hsh.symm.trans hsh'⟩
  · obtain ⟨hs, hsh⟩ := shiftFields_right_recovered hsize hlo hhi
    obtain ⟨hs', hsh'⟩ := shiftFields_right_recovered hsize' hlo' hhi'
    rw [heq] at hs hsh
    exact ⟨hs.symm.trans hs', hsh.symm.trans hsh'⟩
  · have hleft := shiftFields_code_eq (left := true) hsize ⟨hlo, hhi⟩
    have hright := shiftFields_code_eq (size := size) (shift := size - shift) (left := false) hsize
      (by simp; omega)
    simp only [if_true, Bool.false_eq_true, if_false] at hleft hright
    exact ShiftTriple.eq_of_code_eq (BitVec.eq_of_toNat_eq (by omega))

end Sys2Proof.Machine
end

section
/-! A word seen as a row of the table (R164, R178): its fixed bits, and its operands read field by field. A
word with the fixed bits of a legal request's row that holds the request's operands is the request's word. -/

namespace Sys2Proof.Machine

/-! ## The operands of a row in a word -/

/-- The word reads, at the field of every operand of the row, the number that the row gives it. -/
def HoldsOperands (w : Word) : List (FieldName × FieldValue) → List Field → Prop
  | (_, .const _) :: values, _ :: fields => HoldsOperands w values fields
  | (_, .expr n) :: values, x :: fields =>
    w.extractLsb' x.low x.width = BitVec.ofNat x.width n ∧ HoldsOperands w values fields
  | _, _ => True

/-- The bits that the operands of a row cover. -/
def operandMask : List (FieldName × FieldValue) → List Field → Word
  | (_, .const _) :: values, _ :: fields => operandMask values fields
  | (_, .expr _) :: values, x :: fields => x.mask ||| operandMask values fields
  | _, _ => 0#32

/-- The word holds the operands of a request whose placement is given. -/
def Placement.HeldBy (p : Placement) (w : Word) : Prop :=
  HoldsOperands w p.values (Formats.default p.packer).fields

/-- The bits of the default packer that the operands of a placement cover. -/
def Placement.operandMask (p : Placement) : Word :=
  Machine.operandMask p.values (Formats.default p.packer).fields

/-- The fixed bits of a placement: the skeleton and the selectors. -/
def Placement.fixedValue (p : Placement) : Word :=
  (Formats.default p.packer).skeleton ||| selectorWord p.values (Formats.default p.packer).fields

/-- A word in which every field reads its value holds the operands among them. -/
theorem HoldsOperands.of_reads {w : Word} {v : FieldName → Nat}
    {values : List (FieldName × FieldValue)} {fields : List Field}
    (hv : List.Forall₂ (fun y x => v x.name = y.2.num) values fields)
    (hread : ∀ x ∈ fields, (w.extractLsb' x.low x.width).toNat = v x.name) :
    HoldsOperands w values fields := by
  induction hv with
  | nil => exact trivial
  | @cons y x values fields hy _ ih =>
    obtain ⟨name, value⟩ := y
    obtain ⟨hx, hread⟩ := List.forall_mem_cons.1 hread
    cases value with
    | const n => exact ih hread
    | expr n => exact ⟨by rw [← FieldValue.num_expr n, ← hy, ← hx, BitVec.ofNat_toNat, BitVec.setWidth_eq],
        ih hread⟩

/-- Where a word holds the operands, ORing them in is ORing in the word's own bits. -/
theorem HoldsOperands.orOperands_eq {w : Word} {values : List (FieldName × FieldValue)}
    {fields : List Field} (hfit : FitsInOrder values fields)
    (hword : ∀ x ∈ fields, x.low + x.width ≤ 32) (h : HoldsOperands w values fields) (k : Word) :
    orOperands k values fields = k ||| (w &&& Machine.operandMask values fields) := by
  unfold FitsInOrder at hfit
  induction hfit generalizing k with
  | nil => simp [orOperands, Machine.operandMask]
  | @cons y x values fields hy _ ih =>
    obtain ⟨name, value⟩ := y
    obtain ⟨hx, hword⟩ := List.forall_mem_cons.1 hword
    cases value with
    | const n => exact ih hword h k
    | expr n =>
      obtain ⟨hread, hrest⟩ := h
      have hfits : x.Fits fun _ => n := ⟨hx, hy.2⟩
      have hplace : BitVec.ofNat 32 n <<< x.low = w &&& x.mask := by
        rw [hfits.shiftLeft_eq_place, ← hread, place_extractLsb', ← Field.mask_eq_place]
      rw [orOperands, ih hword hrest, hplace, BitVec.or_assoc, and_or_and_word, Machine.operandMask]

/-- The fields of a default packer lie in the word (R78). -/
theorem Formats.default_field_in_word (n : FormatName) :
    ∀ x ∈ (Formats.default n).fields, x.low + x.width ≤ 32 := by
  intro x hx
  obtain ⟨hfields, -⟩ := (Format.wellFormed_iff _).1
    (Formats.wellFormed_of_mem_all (Formats.default_mem_all n))
  obtain ⟨hle, hlt, -⟩ := hfields x hx
  unfold Field.width
  omega

/-- A word that holds a legal request's operands differs from the request's word in the fixed bits alone. -/
theorem encode_eq_of_heldBy {i : Instr} (h : i.wellFormed = true) {w : Word}
    (hw : i.placement.HeldBy w) :
    i.encode = i.placement.fixedValue ||| (w &&& i.placement.operandMask) := by
  rw [← rowWord_placement h]
  exact hw.orOperands_eq (placement_fitsInOrder h) (Formats.default_field_in_word _) _

/-- The word of a legal request holds its operands (R165). -/
theorem encode_heldBy {i : Instr} (h : i.wellFormed = true) : i.placement.HeldBy i.encode := by
  have hnames := Formats.default_names_nodup i.placement.packer
  have hfit := placement_fitsInOrder h
  refine .of_reads (v := i.placement.value) (hfit.value_eq hnames fun _ _ => rfl) fun x hx => ?_
  rw [← FormatTable.default_word_eq_encode h, FormatTable.default_word]
  exact Format.extractLsb'_pack (Formats.wellFormed_of_mem_all (Formats.default_mem_all _))
    (hfit.value_lt hnames _) hx

end Sys2Proof.Machine
end

section
/-! The patterns of an operation (R76, R79): they are its row's fixed bits, for a contiguous load with each of
its `dtype` values, and no two patterns have a word in common. -/

namespace Sys2Proof.Machine

/-- The bits of the field `dtype` of the contiguous loads (R76). -/
def dtypeMask : Word := (Field.mk .dtype 24 21).mask

/-- The values of `dtype` that tell the contiguous loads of one addressing form apart (R76); none for the
other operations. -/
def dtypes : OpCode → List (BitVec 4)
  | .ld1bSs | .ld1bSi => [0, 1, 2, 3]
  | .ld1swSs | .ld1swSi => [4]
  | .ld1hSs | .ld1hSi => [5, 6, 7]
  | .ld1shSs | .ld1shSi => [9, 8]
  | .ld1wSs | .ld1wSi => [10, 11]
  | .ld1sbSs | .ld1sbSi => [14, 13, 12]
  | .ld1dSs | .ld1dSi => [15]
  | _ => []

/-- The patterns of an operation whose row has the fixed bits `value` under `mask`. -/
def rowPatterns (op : OpCode) (mask value : Word) : List Pattern :=
  if dtypes op = [] then [⟨mask, value, op⟩]
  else (dtypes op).map fun d => ⟨mask ||| dtypeMask, value ||| place d 21, op⟩

/-- An operation's row in the default table: its packer with what it gives the fields, at the operands read
from the word 0. Its fixed bits are those at any operands (`placement_bits`). -/
noncomputable def rowOf (op : OpCode) : Placement :=
  match build op 0 with
  | some i => i.placement
  | none => ⟨.setffr, []⟩

/-- The table lists the operations' rows one after the other, each with its fixed bits. -/
theorem patterns_eq_rows : patterns = ((List.range 287).map OpCode.ofNat).flatMap fun op =>
    rowPatterns op (~~~(rowOf op).operandMask) (rowOf op).fixedValue := by
  decide +kernel

/-- A placement and a packer written out have the bits of a row. -/
theorem Placement.bits_of_eq {p q : Placement} {n : FormatName}
    {values : List (FieldName × FieldValue)} {k : Word} {fields : List Field} (hp : p = ⟨n, values⟩)
    (hf : Formats.default n = ⟨k, fields⟩)
    (h : Machine.operandMask values fields = q.operandMask ∧ k ||| selectorWord values fields = q.fixedValue) :
    p.operandMask = q.operandMask ∧ p.fixedValue = q.fixedValue := by
  subst hp
  rwa [Placement.operandMask, Placement.fixedValue, hf]

/-- Which bits the operands of a request cover, and the fixed bits around them, depend on its operation alone. -/
theorem placement_bits (i : Instr) : i.placement.operandMask = (rowOf i.op).operandMask ∧
    i.placement.fixedValue = (rowOf i.op).fixedValue := by
  cases i
  all_goals
    refine Placement.bits_of_eq rfl rfl ?_
    simp only [Instr.op, Machine.operandMask, selectorWord]
    decide +kernel

/-- The fixed bits of a row lie under its mask, and outside `dtype` where that is not fixed. -/
theorem rowOf_bits {op : OpCode} (h : op ∈ (List.range 287).map OpCode.ofNat) :
    (rowOf op).fixedValue &&& ~~~(rowOf op).operandMask = (rowOf op).fixedValue ∧
      (dtypes op = [] ∨ ~~~(rowOf op).operandMask &&& dtypeMask = 0) := by
  have hall : ∀ op ∈ (List.range 287).map OpCode.ofNat,
      (rowOf op).fixedValue &&& ~~~(rowOf op).operandMask = (rowOf op).fixedValue ∧
      (dtypes op = [] ∨ ~~~(rowOf op).operandMask &&& dtypeMask = 0) := by decide +kernel
  exact hall op h

/-- The operation of a request is one of the 287 with a row. -/
theorem op_mem_rows (i : Instr) : i.op ∈ (List.range 287).map OpCode.ofNat := by
  have hlt : i.op.ctorIdx < 287 := by cases i <;> exact of_decide_eq_true rfl
  exact List.mem_map.2 ⟨i.op.ctorIdx, List.mem_range.2 hlt, OpCode.ofNat_ctorIdx _⟩

/-- A pattern of a row is that row's operation's. -/
theorem op_of_mem_rowPatterns {p : Pattern} {op : OpCode} {mask value : Word}
    (h : p ∈ rowPatterns op mask value) : p.op = op := by
  unfold rowPatterns at h
  split at h
  · rw [List.mem_singleton.1 h]
  · obtain ⟨d, -, rfl⟩ := List.mem_map.1 h
    rfl

/-- The patterns of a request's operation are those of its row. -/
theorem mem_patterns_iff {i : Instr} {p : Pattern} : p ∈ patterns ∧ p.op = i.op ↔
    p ∈ rowPatterns i.op (~~~i.placement.operandMask) i.placement.fixedValue := by
  obtain ⟨hmask, hvalue⟩ := placement_bits i
  rw [patterns_eq_rows, List.mem_flatMap, hmask, hvalue]
  constructor
  · rintro ⟨⟨op, -, hp⟩, hop⟩
    rwa [← hop, op_of_mem_rowPatterns hp]
  · exact fun hp => ⟨⟨i.op, op_mem_rows i, hp⟩, op_of_mem_rowPatterns hp⟩

/-- Bits apart from `dtype` with a value placed in `dtype` show both. -/
theorem read_or_place_dtype {a mask : Word} (ha : a &&& mask = a) (hapart : mask &&& dtypeMask = 0)
    (d : BitVec 4) :
    (a ||| place d 21).extractLsb' 21 4 = d ∧ (a ||| place d 21) &&& mask = a := by
  have hzero : a &&& dtypeMask = 0 := by
    rw [← ha, BitVec.and_assoc, hapart]
    exact BitVec.and_zero
  have hplace : place d 21 &&& mask = 0#32 :=
    place_and_eq_zero d 21 mask (((BitVec.and_comm ..).trans hapart :))
  refine ⟨?_, by rw [or_and_word, ha, hplace, BitVec.or_zero]⟩
  rw [extractLsb'_or_word, extractLsb'_place d 21 (by decide)]
  exact (congrArg (· ||| d) (extractLsb'_eq_zero_of_and_mask (x := ⟨.dtype, 24, 21⟩) (by decide) hzero)).trans
    BitVec.zero_or

/-- A word has the fixed bits of a row and a `dtype` apart from them exactly where it has both. -/
theorem and_or_dtypeMask_eq_iff {w mask value : Word} (hvalue : value &&& mask = value)
    (hapart : mask &&& dtypeMask = 0) (d : BitVec 4) :
    w &&& (mask ||| dtypeMask) = value ||| place d 21 ↔
      w &&& mask = value ∧ w.extractLsb' 21 4 = d := by
  have hsplit : w &&& (mask ||| dtypeMask) = w &&& mask ||| place (w.extractLsb' 21 4) 21 := by
    rw [← and_or_and_word, dtypeMask, Field.mask_eq_place, place_extractLsb']
    rfl
  have hw : w &&& mask &&& mask = w &&& mask := by rw [BitVec.and_assoc, BitVec.and_self]
  obtain ⟨hwd, hwm⟩ := read_or_place_dtype hw hapart (w.extractLsb' 21 4)
  obtain ⟨hvd, hvm⟩ := read_or_place_dtype hvalue hapart d
  rw [hsplit]
  refine ⟨fun h => ?_, fun ⟨hm, hd⟩ => by rw [hm, hd]⟩
  rw [h] at hwd hwm
  exact ⟨hwm.symm.trans hvm, hwd.symm.trans hvd⟩

/-- The fixed bits of a request's row lie outside its operands. -/
theorem fixedValue_and_not_operandMask (i : Instr) :
    i.placement.fixedValue &&& ~~~i.placement.operandMask = i.placement.fixedValue := by
  obtain ⟨hmask, hvalue⟩ := placement_bits i
  rw [hmask, hvalue]
  exact (rowOf_bits (op_mem_rows i)).1

/-- A word has a pattern of a request's operation exactly where it has the fixed bits of the request's row
and, for a contiguous load, one of its `dtype` values. -/
theorem exists_pattern_iff {i : Instr} {w : Word} :
    (∃ p ∈ patterns, p.op = i.op ∧ w &&& p.mask = p.value) ↔
      w &&& ~~~i.placement.operandMask = i.placement.fixedValue ∧
        (dtypes i.op = [] ∨ w.extractLsb' 21 4 ∈ dtypes i.op) := by
  have hunder := fixedValue_and_not_operandMask i
  have hapart := (rowOf_bits (op_mem_rows i)).2
  rw [← (placement_bits i).1] at hapart
  have hrow : (∃ p ∈ patterns, p.op = i.op ∧ w &&& p.mask = p.value) ↔
      ∃ p ∈ rowPatterns i.op (~~~i.placement.operandMask) i.placement.fixedValue,
        w &&& p.mask = p.value := by
    simp only [← mem_patterns_iff, and_assoc]
  rw [hrow, rowPatterns]
  split
  next hnone => simp [hnone]
  next hsome =>
    have hiff := fun d => and_or_dtypeMask_eq_iff (w := w) hunder (hapart.resolve_left hsome) d
    simp [hsome, hiff, and_comm]

end Sys2Proof.Machine
end

section
/-! Reading an operand back from its field (R62 to R77, R79). For each operand form two facts: the reader gives
the legal operand whose field is placed, and the field of the operand that the reader gives is the field read. -/

namespace Sys2Proof.Machine

/-! ## Sizes -/

/-- Every set of sizes that an operation has, but that of the indexed duplicate, has some of the four of R62. -/
theorem legalSize_four {legal : List ReqInt}
    (hlegal : legal ∈ [[(8 : ReqInt), 16, 32, 64], [16, 32, 64], [32, 64], [64], [8, 16, 32]])
    {size : ReqInt} (h : legalSize legal size = true) : legalSize [8, 16, 32, 64] size = true := by
  simp only [List.mem_cons, List.not_mem_nil, or_false] at hlegal
  simp only [legalSize_eq, decide_eq_true_eq] at h ⊢
  rcases hlegal with rfl | rfl | rfl | rfl | rfl <;> simp at h ⊢ <;> tauto

theorem legalSize_from_16 {size : ReqInt} (h : legalSize [16, 32, 64] size = true) :
    legalSize [8, 16, 32, 64] size = true := legalSize_four (by simp) h

theorem legalSize_from_32 {size : ReqInt} (h : legalSize [32, 64] size = true) :
    legalSize [8, 16, 32, 64] size = true := legalSize_four (by simp) h

theorem legalSize_to_32 {size : ReqInt} (h : legalSize [8, 16, 32] size = true) :
    legalSize [8, 16, 32, 64] size = true := legalSize_four (by simp) h

/-- The size is read from its code (R62). -/
theorem sizeOfCode_sizecode {size : ReqInt} (h : legalSize [8, 16, 32, 64] size = true) :
    sizeOfCode (BitVec.ofNat 2 (sizecode size)) = size := by
  rw [legalSize_eq, decide_eq_true_eq] at h
  exact sizeOfCode_sizeField h

theorem sizeOfCode_sizecode_64 : sizeOfCode (BitVec.ofNat 2 (sizecode 64)) = 64 := by
  decide

theorem sizecode_sizeOfCode : ∀ c : BitVec 2, BitVec.ofNat 2 (sizecode (sizeOfCode c)) = c := by
  decide

/-- The narrow size is read from the code one above its own (R419). -/
theorem narrowSizeOfCode_sizecode {size : ReqInt} (h : legalSize [8, 16, 32] size = true) :
    narrowSizeOfCode (BitVec.ofNat 2 (sizecode size + 1)) = size := by
  simp only [legalSize_eq, decide_eq_true_eq, List.mem_cons, List.not_mem_nil, or_false] at h
  rcases h with rfl | rfl | rfl <;> decide

theorem sizecode_narrowSizeOfCode : ∀ {c : BitVec 2}, legalSize [8, 16, 32] (narrowSizeOfCode c) = true →
    BitVec.ofNat 2 (sizecode (narrowSizeOfCode c) + 1) = c := by
  decide

/-- The only size of an operation that has one (R321, R331). -/
theorem legalSize_singleton (a size : ReqInt) : legalSize [a] size = true ↔ size = a := by
  rw [legalSize_eq, decide_eq_true_eq, List.mem_singleton]

/-- The size is read from the `dtype` of a contiguous load (R76). -/
theorem sizeOfCode_dtype {size : ReqInt} (h : legalSize [8, 16, 32, 64] size = true) :
    sizeOfCode ((BitVec.ofNat 4 (sizecode size)).setWidth 2) = size ∧
    sizeOfCode ((BitVec.ofNat 4 (0b0100 + sizecode size) - 0b0100).setWidth 2) = size ∧
    sizeOfCode ((BitVec.ofNat 4 (0b1000 + sizecode size) - 0b1000).setWidth 2) = size ∧
    sizeOfCode ((0b1011 - BitVec.ofNat 4 (0b1011 - sizecode size)).setWidth 2) = size ∧
    sizeOfCode ((0b1111 - BitVec.ofNat 4 (0b1111 - sizecode size)).setWidth 2) = size := by
  simp only [legalSize_eq, decide_eq_true_eq, List.mem_cons, List.not_mem_nil, or_false] at h
  rcases h with rfl | rfl | rfl | rfl <;> decide

/-- The `dtype` of a legal size is one of the operation's (R76). -/
theorem dtype_mem_of_legalSize {size : ReqInt} :
    (legalSize [8, 16, 32, 64] size = true → BitVec.ofNat 4 (sizecode size) ∈ dtypes .ld1bSs) ∧
    (legalSize [16, 32, 64] size = true → BitVec.ofNat 4 (0b0100 + sizecode size) ∈ dtypes .ld1hSs) ∧
    (legalSize [32, 64] size = true → BitVec.ofNat 4 (0b1000 + sizecode size) ∈ dtypes .ld1wSs) ∧
    (legalSize [32, 64] size = true → BitVec.ofNat 4 (0b1011 - sizecode size) ∈ dtypes .ld1shSs) ∧
    (legalSize [16, 32, 64] size = true → BitVec.ofNat 4 (0b1111 - sizecode size) ∈ dtypes .ld1sbSs) := by
  simp only [legalSize_eq, decide_eq_true_eq, List.mem_cons, List.not_mem_nil, or_false]
  refine ⟨?_, ?_, ?_, ?_, ?_⟩
  · rintro (rfl | rfl | rfl | rfl) <;> decide
  · rintro (rfl | rfl | rfl) <;> decide
  · rintro (rfl | rfl) <;> decide
  · rintro (rfl | rfl) <;> decide
  · rintro (rfl | rfl | rfl) <;> decide

/-- A `dtype` of the operation is that of the size read from it (R76). -/
theorem dtype_sizeOfCode {op : OpCode} {c : BitVec 4} (h : dtypes op = [] ∨ c ∈ dtypes op) :
    (op = .ld1bSs ∨ op = .ld1bSi → BitVec.ofNat 4 (sizecode (sizeOfCode (c.setWidth 2))) = c) ∧
    (op = .ld1hSs ∨ op = .ld1hSi →
      BitVec.ofNat 4 (0b0100 + sizecode (sizeOfCode ((c - 0b0100).setWidth 2))) = c) ∧
    (op = .ld1wSs ∨ op = .ld1wSi →
      BitVec.ofNat 4 (0b1000 + sizecode (sizeOfCode ((c - 0b1000).setWidth 2))) = c) ∧
    (op = .ld1shSs ∨ op = .ld1shSi →
      BitVec.ofNat 4 (0b1011 - sizecode (sizeOfCode ((0b1011 - c).setWidth 2))) = c) ∧
    (op = .ld1sbSs ∨ op = .ld1sbSi →
      BitVec.ofNat 4 (0b1111 - sizecode (sizeOfCode ((0b1111 - c).setWidth 2))) = c) ∧
    (op = .ld1swSs ∨ op = .ld1swSi → c = 4#4) ∧ (op = .ld1dSs ∨ op = .ld1dSi → c = 15#4) := by
  refine ⟨?_, ?_, ?_, ?_, ?_, ?_, ?_⟩ <;> rintro (rfl | rfl) <;> revert c <;> decide

/-- The pair of sizes of a conversion is read from its codes (R494). -/
theorem fcvtSizes_fcvtTable {dsize ssize : ReqInt} (hd : legalSize [16, 32, 64] dsize = true)
    (hs : legalSize [16, 32, 64] ssize = true) (hne : distinctSizes dsize ssize = true) :
    fcvtSizes (BitVec.ofNat 2 (fcvtTable dsize ssize).1) (BitVec.ofNat 2 (fcvtTable dsize ssize).2) =
      (dsize, ssize) := by
  rw [legalSize_eq, decide_eq_true_eq] at hd hs
  rw [distinctSizes_eq, decide_eq_true_eq] at hne
  exact fcvtSizes_fcvtCode hd hs hne

theorem fcvtTable_fcvtSizes : ∀ {a b : BitVec 2}, legalSize [16, 32, 64] (fcvtSizes a b).1 = true →
    BitVec.ofNat 2 (fcvtTable (fcvtSizes a b).1 (fcvtSizes a b).2).1 = a ∧
    BitVec.ofNat 2 (fcvtTable (fcvtSizes a b).1 (fcvtSizes a b).2).2 = b := by
  decide

/-! ## Predicates -/

theorem styleIn_singleton (st : BitVec 2) (pg : GovPred) : styleIn [st] pg = true ↔ pg.style = st := by
  rw [styleIn_eq, decide_eq_true_eq, List.mem_singleton]

/-- A governing predicate with the operation's one style is read from its index (R77). -/
theorem govPred_eq {st : BitVec 2} {pg : GovPred} (h : styleIn [st] pg = true) :
    (⟨pg.idx, st⟩ : GovPred) = pg := by
  rw [← (styleIn_singleton st pg).1 h]

/-- The index of p0..p7 is read from its 3-bit field (R64). -/
theorem setWidth_lowPredicate {pg : GovPred} (h : lowPredicate pg = true) :
    (pg.idx.setWidth 3).setWidth 4 = pg.idx := by
  have hall : ∀ p : BitVec 4, p ≤ 7 → (p.setWidth 3).setWidth 4 = p := by decide
  exact hall _ (of_decide_eq_true h)

/-- The style is read from the bit `M` (R77). -/
theorem styleOfBit_mergeBit {pg : GovPred} (h : styleIn [Style.merging, Style.zeroing] pg = true) :
    styleOfBit (BitVec.ofNat 1 (mergeBit pg)) = pg.style := by
  obtain ⟨idx, style⟩ := pg
  simp only [styleIn_eq, decide_eq_true_eq, List.mem_cons, List.not_mem_nil, or_false] at h
  rcases h with rfl | rfl <;> rfl

theorem mergeBit_styleOfBit (idx : BitVec 4) (m : BitVec 1) :
    BitVec.ofNat 1 (mergeBit ⟨idx, styleOfBit m⟩) = m := by
  have hall : ∀ m, BitVec.ofNat 1 (if styleOfBit m = Style.merging then 1 else 0) = m := by decide
  exact hall m

/-! ## Registers in sequence (R170) -/

theorem sequential_two (a b : VReg) : sequential a [b] = true ↔ b = a + 1 := by
  simp [sequential_cons]

theorem sequential_three (a b c : VReg) : sequential a [b, c] = true ↔ b = a + 1 ∧ c = a + 2 := by
  simp [sequential_cons, BitVec.add_assoc]

theorem sequential_four (a b c d : VReg) :
    sequential a [b, c, d] = true ↔ b = a + 1 ∧ c = a + 2 ∧ d = a + 3 := by
  simp [sequential_cons, BitVec.add_assoc]

/-! ## Immediates and rotations -/

/-- A signed number in a field of `k` bits is read back (R71). -/
theorem signExtend_ofInt {k : Nat} (hk : 0 < k) (hk32 : k ≤ 32) {n : Int} (hlo : -2 ^ (k - 1) ≤ n)
    (hhi : n < 2 ^ (k - 1)) : ((BitVec.ofInt k n).signExtend 32).toInt = n := by
  rw [BitVec.toInt_signExtend_of_le hk32, BitVec.toInt_ofInt]
  obtain ⟨j, rfl⟩ : ∃ j, k = j + 1 := ⟨k - 1, by omega⟩
  rw [Nat.add_sub_cancel] at hlo hhi
  refine Int.bmod_eq_of_le ?_ ?_ <;> push_cast [Int.pow_succ] <;> omega

/-- A remainder modulo `2 ^ k` is the number's field of `k` bits. -/
theorem ofNat_emod {k : Nat} {m : Int} (hm : m = 2 ^ k) (n : Int) :
    BitVec.ofNat k (n % m).toNat = BitVec.ofInt k n := by
  subst hm
  have hlt : (n % 2 ^ k).toNat < 2 ^ k := by
    have := Int.emod_lt_of_pos n (show (0 : Int) < 2 ^ k by positivity)
    zify
    omega
  apply BitVec.eq_of_toNat_eq
  rw [BitVec.toNat_ofNat, BitVec.toNat_ofInt, Nat.mod_eq_of_lt hlt]
  norm_cast

/-- A signed immediate is read from its field (R71, R72). -/
theorem signExtend_modField {k : Nat} {m lo hi : Int} (hk : 0 < k ∧ k ≤ 32) (hm : m = 2 ^ k)
    (hlo : lo = -2 ^ (k - 1)) (hhi : hi = 2 ^ (k - 1) - 1) {imm : ReqInt}
    (h : inInterval lo hi imm = true) :
    (BitVec.ofNat k (modField imm m)).signExtend 32 = imm := by
  obtain ⟨hge, hle⟩ := of_decide_eq_true h
  rw [modField, ofNat_emod hm]
  exact BitVec.eq_of_toInt_eq (signExtend_ofInt hk.1 hk.2 (by omega) (by omega))

theorem signExtend_modField_16 {imm : ReqInt} (h : inInterval (-8) 7 imm = true) :
    (BitVec.ofNat 4 (modField imm 16)).signExtend 32 = imm :=
  signExtend_modField (by decide) rfl rfl rfl h

theorem signExtend_modField_32 {imm : ReqInt} (h : inInterval (-16) 15 imm = true) :
    (BitVec.ofNat 5 (modField imm 32)).signExtend 32 = imm :=
  signExtend_modField (by decide) rfl rfl rfl h

theorem signExtend_modField_64 {imm : ReqInt} (h : inInterval (-32) 31 imm = true) :
    (BitVec.ofNat 6 (modField imm 64)).signExtend 32 = imm :=
  signExtend_modField (by decide) rfl rfl rfl h

theorem modField_signExtend {k : Nat} {m : Int} (hk : 0 < k ∧ k ≤ 32) (hm : m = 2 ^ k) (c : BitVec k) :
    BitVec.ofNat k (modField (c.signExtend 32) m) = c := by
  rw [modField, ofNat_emod hm, BitVec.toInt_signExtend_of_le hk.2, BitVec.ofInt_toInt]

theorem modField_16_signExtend (c : BitVec 4) : BitVec.ofNat 4 (modField (c.signExtend 32) 16) = c :=
  modField_signExtend (by decide) rfl c

theorem modField_32_signExtend (c : BitVec 5) : BitVec.ofNat 5 (modField (c.signExtend 32) 32) = c :=
  modField_signExtend (by decide) rfl c

theorem modField_64_signExtend (c : BitVec 6) : BitVec.ofNat 6 (modField (c.signExtend 32) 64) = c :=
  modField_signExtend (by decide) rfl c

/-- The units N of the structured loads and stores, as numbers and as request integers (R72). -/
def units : List (Int × ReqInt) := [(2, 2), (3, 3), (4, 4)]

/-- An immediate in units of N is read from its 4-bit field (R72). -/
theorem mul_signExtend_scaledField {n lo hi : Int} {k : ReqInt} (hn : (n, k) ∈ units)
    (hlo : lo = -8 * n) (hhi : hi = 7 * n) {imm : ReqInt} (h : inInterval lo hi imm = true)
    (hmul : isMultiple n imm = true) :
    k * (BitVec.ofNat 4 (scaledField imm n)).signExtend 32 = imm := by
  obtain ⟨hge, hle⟩ := of_decide_eq_true h
  have himm : imm.toInt = n * (imm.toInt / n) :=
    (Int.mul_ediv_cancel' (Int.dvd_of_emod_eq_zero (of_decide_eq_true hmul))).symm
  have hproduct : ∀ x ∈ units, ∀ c : BitVec 4, (x.2 * c.signExtend 32).toInt = x.1 * c.toInt := by
    decide
  have hrange : -8 ≤ imm.toInt / n ∧ imm.toInt / n ≤ 7 := by
    simp only [units, List.mem_cons, Prod.mk.injEq, List.not_mem_nil, or_false] at hn
    rcases hn with ⟨rfl, -⟩ | ⟨rfl, -⟩ | ⟨rfl, -⟩ <;> omega
  have hquotient : (BitVec.ofInt 4 (imm.toInt / n)).toInt = imm.toInt / n := by
    rw [BitVec.toInt_ofInt]
    exact Int.bmod_eq_of_le (by omega) (by omega)
  apply BitVec.eq_of_toInt_eq
  rw [scaledField, ofNat_emod (by rfl), hproduct _ hn, hquotient, ← himm]

theorem signExtend_scaledField_2 {imm : ReqInt} (h : inInterval (-16) 14 imm = true)
    (hmul : isMultiple 2 imm = true) :
    2 * (BitVec.ofNat 4 (scaledField imm 2)).signExtend 32 = imm :=
  mul_signExtend_scaledField (by decide) rfl rfl h hmul

theorem signExtend_scaledField_3 {imm : ReqInt} (h : inInterval (-24) 21 imm = true)
    (hmul : isMultiple 3 imm = true) :
    3 * (BitVec.ofNat 4 (scaledField imm 3)).signExtend 32 = imm :=
  mul_signExtend_scaledField (by decide) rfl rfl h hmul

theorem signExtend_scaledField_4 {imm : ReqInt} (h : inInterval (-32) 28 imm = true)
    (hmul : isMultiple 4 imm = true) :
    4 * (BitVec.ofNat 4 (scaledField imm 4)).signExtend 32 = imm :=
  mul_signExtend_scaledField (by decide) rfl rfl h hmul

theorem scaledField_signExtend (c : BitVec 4) :
    BitVec.ofNat 4 (scaledField (2 * c.signExtend 32) 2) = c ∧
    BitVec.ofNat 4 (scaledField (3 * c.signExtend 32) 3) = c ∧
    BitVec.ofNat 4 (scaledField (4 * c.signExtend 32) 4) = c := by
  revert c
  decide

/-- An unsigned immediate is read from its field (R74). -/
theorem setWidth_of_inInterval {n : Nat} {hi : Int} (hn : hi < 2 ^ n) {imm : ReqInt}
    (h : inInterval 0 hi imm = true) : (imm.setWidth n).setWidth 32 = imm := by
  obtain ⟨-, hle⟩ := (inInterval_zero_iff hi imm).1 h
  have hlt : imm.toNat < 2 ^ n := by exact_mod_cast hle.trans_lt hn
  apply BitVec.eq_of_toNat_eq
  rw [BitVec.toNat_setWidth, BitVec.toNat_setWidth, Nat.mod_eq_of_lt hlt, Nat.mod_eq_of_lt imm.isLt]

theorem setWidth_5_of_inInterval {imm : ReqInt} (h : inInterval 0 31 imm = true) :
    (imm.setWidth 5).setWidth 32 = imm := setWidth_of_inInterval (by decide) h

theorem setWidth_7_of_inInterval {imm : ReqInt} (h : inInterval 0 127 imm = true) :
    (imm.setWidth 7).setWidth 32 = imm := setWidth_of_inInterval (by decide) h

/-- An index or an unsigned immediate in a wider operand has the field it was read from. -/
theorem setWidth_setWidth_fields : (∀ c : BitVec 3, (c.setWidth 4).setWidth 3 = c) ∧
    (∀ c : BitVec 5, (c.setWidth 32).setWidth 5 = c) ∧ ∀ c : BitVec 7, (c.setWidth 32).setWidth 7 = c := by
  refine ⟨fun c => ?_, fun c => ?_, fun c => ?_⟩ <;>
    rw [BitVec.setWidth_setWidth_of_le _ (by decide), BitVec.setWidth_eq]

/-- The 8-bit immediate of the extract is read from its two fields. -/
theorem append_extract_of_inInterval {imm : ReqInt} (h : inInterval 0 255 imm = true) :
    (imm.extractLsb' 3 5 ++ imm.extractLsb' 0 3).setWidth 32 = imm := by
  rw [BitVec.extractLsb'_append_extractLsb'_eq_extractLsb' (by rfl), ← BitVec.setWidth_eq_extractLsb' (by decide)]
  exact setWidth_of_inInterval (n := 8) (by decide) h

theorem extract_setWidth_append (a : BitVec 5) (b : BitVec 3) :
    ((a ++ b).setWidth 32).extractLsb' 3 5 = a ∧ ((a ++ b).setWidth 32).extractLsb' 0 3 = b := by
  revert a b
  decide +kernel

/-- A rotation of 90 or 270 is read from its bit (R75). -/
theorem rotation_oddRotation {rot : ReqInt} (h : legalRotation [90, 270] rot = true) :
    90 + 180 * (BitVec.ofNat 1 (oddRotation rot)).setWidth 32 = rot := by
  simp only [legalRotation_eq, decide_eq_true_eq, List.mem_cons, List.not_mem_nil, or_false] at h
  rcases h with rfl | rfl <;> decide

theorem oddRotation_rotation : ∀ c : BitVec 1,
    BitVec.ofNat 1 (oddRotation (90 + 180 * c.setWidth 32)) = c := by
  decide

/-- A rotation is read from its 2-bit field (R75). -/
theorem rotation_div {rot : ReqInt} (h : legalRotation [0, 90, 180, 270] rot = true) :
    90 * (BitVec.ofNat 2 (rot.toNat / 90)).setWidth 32 = rot := by
  simp only [legalRotation_eq, decide_eq_true_eq, List.mem_cons, List.not_mem_nil, or_false] at h
  rcases h with rfl | rfl | rfl | rfl <;> decide

theorem div_rotation : ∀ c : BitVec 2,
    BitVec.ofNat 2 ((90 * c.setWidth 32 : ReqInt).toNat / 90) = c := by
  decide

/-! ## The shift-field codec (R65 to R69) -/

/-- A legal size as the signed number that the codec takes. -/
theorem toInt_mem_sizes {size : ReqInt} (h : legalSize [8, 16, 32, 64] size = true) :
    size.toInt ∈ [(8 : Int), 16, 32, 64] := by
  simp only [legalSize_eq, decide_eq_true_eq, List.mem_cons, List.not_mem_nil, or_false] at h
  rcases h with rfl | rfl | rfl | rfl <;> decide

/-- Size and shift are read from the triple of a left shift. -/
theorem codec_shiftFields_left {size shift : ReqInt} (h : legalSize [8, 16, 32, 64] size = true)
    (hs : leftShiftRange size.toInt shift = true) :
    codecSize ((shiftFields size.toInt shift.toInt true).high ++
        (shiftFields size.toInt shift.toInt true).low ++ (shiftFields size.toInt shift.toInt true).res) = size ∧
      leftShiftOf ((shiftFields size.toInt shift.toInt true).high ++
        (shiftFields size.toInt shift.toInt true).low ++ (shiftFields size.toInt shift.toInt true).res) = shift := by
  obtain ⟨hlo, hhi⟩ := of_decide_eq_true hs
  obtain ⟨hsize, hshift⟩ := shiftFields_left_recovered (toInt_mem_sizes h) hlo hhi
  exact ⟨BitVec.eq_of_toInt_eq hsize, BitVec.eq_of_toInt_eq hshift⟩

/-- Size and shift are read from the triple of a right shift. -/
theorem codec_shiftFields_right {size shift : ReqInt} (h : legalSize [8, 16, 32, 64] size = true)
    (hs : rightShiftRange size.toInt shift = true) :
    codecSize ((shiftFields size.toInt shift.toInt false).high ++
        (shiftFields size.toInt shift.toInt false).low ++ (shiftFields size.toInt shift.toInt false).res) = size ∧
      rightShiftOf ((shiftFields size.toInt shift.toInt false).high ++
        (shiftFields size.toInt shift.toInt false).low ++ (shiftFields size.toInt shift.toInt false).res) = shift := by
  obtain ⟨hlo, hhi⟩ := of_decide_eq_true hs
  obtain ⟨hsize, hshift⟩ := shiftFields_right_recovered (toInt_mem_sizes h) hlo hhi
  exact ⟨BitVec.eq_of_toInt_eq hsize, BitVec.eq_of_toInt_eq hshift⟩

/-- The triple of a legal code is read back from the size and the shift that the code means. -/
theorem shiftFields_codec : ∀ {high low : BitVec 2} {res : BitVec 3},
    legalSize [8, 16, 32, 64] (codecSize (high ++ low ++ res)) = true →
    shiftFields (codecSize (high ++ low ++ res)).toInt (leftShiftOf (high ++ low ++ res)).toInt true =
      ⟨high, low, res⟩ ∧
    shiftFields (codecSize (high ++ low ++ res)).toInt (rightShiftOf (high ++ low ++ res)).toInt false =
      ⟨high, low, res⟩ := by
  decide +kernel

/-- The codec of a narrow size leaves the upper bit of `high` 0 (R67). -/
theorem zero_append_high {width : Int} (h : width ∈ [(8 : Int), 16, 32]) (shift : Int) (left : Bool) :
    0#1 ++ (shiftFields width shift left).high.extractLsb' 0 1 = (shiftFields width shift left).high := by
  have hhigh : (shiftFields width shift left).high = 0 ∨ (shiftFields width shift left).high = 1 := by
    simp only [List.mem_cons, List.not_mem_nil, or_false] at h
    rcases h with rfl | rfl | rfl
    exacts [.inl rfl, .inl rfl, .inr rfl]
  rcases hhigh with hhigh | hhigh <;> rw [hhigh] <;> rfl

theorem extract_zero_append : ∀ high : BitVec 1, (0#1 ++ high).extractLsb' 0 1 = high := by
  decide

/-- A narrow size as the signed number that the codec takes. -/
theorem toInt_mem_narrow {size : ReqInt} (h : legalSize [8, 16, 32] size = true) :
    size.toInt ∈ [(8 : Int), 16, 32] := by
  simp only [legalSize_eq, decide_eq_true_eq, List.mem_cons, List.not_mem_nil, or_false] at h
  rcases h with rfl | rfl | rfl <;> decide

/-- A size twice a narrow one: the narrow one, as the codec of a widening shift takes it (R432). -/
theorem exists_half_of_legalSize {size : ReqInt} (h : legalSize [16, 32, 64] size = true) :
    ∃ half : ReqInt, legalSize [8, 16, 32] half = true ∧ size = 2 * half ∧ size.toInt / 2 = half.toInt := by
  simp only [legalSize_eq, decide_eq_true_eq, List.mem_cons, List.not_mem_nil, or_false] at h
  rcases h with rfl | rfl | rfl
  · exact ⟨8, by decide⟩
  · exact ⟨16, by decide⟩
  · exact ⟨32, by decide⟩

/-- Size and shift of a narrowing shift are read from the three fields of its word. -/
theorem codec_shiftFields_narrow {size shift : ReqInt} (h : legalSize [8, 16, 32] size = true)
    (hs : rightShiftRange size.toInt shift = true) :
    codecSize ((0#1 ++ (shiftFields size.toInt shift.toInt false).high.extractLsb' 0 1) ++
        (shiftFields size.toInt shift.toInt false).low ++ (shiftFields size.toInt shift.toInt false).res) = size ∧
      rightShiftOf ((0#1 ++ (shiftFields size.toInt shift.toInt false).high.extractLsb' 0 1) ++
        (shiftFields size.toInt shift.toInt false).low ++ (shiftFields size.toInt shift.toInt false).res) = shift := by
  rw [zero_append_high (toInt_mem_narrow h)]
  exact codec_shiftFields_right (legalSize_to_32 h) hs

/-- Size and shift of a widening shift are read from the three fields of its word. -/
theorem codec_shiftFields_wide {size shift : ReqInt} (h : legalSize [16, 32, 64] size = true)
    (hs : leftShiftRange (size.toInt / 2) shift = true) :
    2 * codecSize ((0#1 ++ (shiftFields (size.toInt / 2) shift.toInt true).high.extractLsb' 0 1) ++
        (shiftFields (size.toInt / 2) shift.toInt true).low ++
        (shiftFields (size.toInt / 2) shift.toInt true).res) = size ∧
      leftShiftOf ((0#1 ++ (shiftFields (size.toInt / 2) shift.toInt true).high.extractLsb' 0 1) ++
        (shiftFields (size.toInt / 2) shift.toInt true).low ++
        (shiftFields (size.toInt / 2) shift.toInt true).res) = shift := by
  obtain ⟨half, hhalf, rfl, hint⟩ := exists_half_of_legalSize h
  rw [hint] at hs ⊢
  rw [zero_append_high (toInt_mem_narrow hhalf)]
  obtain ⟨hsize, hshift⟩ := codec_shiftFields_left (legalSize_to_32 hhalf) hs
  exact ⟨by rw [hsize], hshift⟩

/-- The size of a widening shift is twice its codec's (R432). -/
theorem widening_codecSize : ∀ {v : BitVec 7}, legalSize [16, 32, 64] (2 * codecSize v) = true →
    legalSize [8, 16, 32, 64] (codecSize v) = true ∧ (2 * codecSize v).toInt / 2 = (codecSize v).toInt := by
  decide +kernel

/-! ## The indexed duplicate (R73) -/

/-- Size and index are read from `v7`. -/
theorem indexed_indexedImmediate {size index : ReqInt} (h : legalSize [8, 16, 32, 64, 128] size = true)
    (hi : indexRange size index = true) :
    indexedSize (indexedImmediate size index) = size ∧
      indexedIndex (indexedImmediate size index) = index := by
  have hall : ∀ k : BitVec 3, k ≤ 4 → ∀ c : BitVec 6, indexRange (8#32 <<< k) (c.setWidth 32) = true →
      indexedSize (indexedImmediate (8#32 <<< k) (c.setWidth 32)) = 8#32 <<< k ∧
      indexedIndex (indexedImmediate (8#32 <<< k) (c.setWidth 32)) = c.setWidth 32 := by
    decide +kernel
  obtain ⟨k, hk, rfl⟩ : ∃ k : BitVec 3, k ≤ 4 ∧ size = 8#32 <<< k := by
    simp only [legalSize_eq, decide_eq_true_eq, List.mem_cons, List.not_mem_nil, or_false] at h
    rcases h with rfl | rfl | rfl | rfl | rfl
    exacts [⟨0, by decide⟩, ⟨1, by decide⟩, ⟨2, by decide⟩, ⟨3, by decide⟩, ⟨4, by decide⟩]
  have hle : ∀ k : BitVec 3, k ≤ 4 → 512 / (8#32 <<< k).toInt ≤ 64 := by decide
  have hindex : (index.setWidth 6).setWidth 32 = index := by
    obtain ⟨hlo, hhi⟩ := of_decide_eq_true hi
    exact setWidth_of_inInterval (hi := 63) (by decide) (decide_eq_true ⟨hlo, by have := hle k hk; omega⟩)
  have hread := hall k hk (index.setWidth 6)
  rw [hindex] at hread
  exact hread hi

theorem indexedImmediate_indexed : ∀ {v : BitVec 7},
    legalSize [8, 16, 32, 64, 128] (indexedSize v) = true →
    indexedImmediate (indexedSize v) (indexedIndex v) = v := by
  decide +kernel

/-- `v7` and its two fields. -/
theorem append_extract_v7 (v : BitVec 7) : v.extractLsb' 5 2 ++ v.extractLsb' 0 5 = v := by
  revert v
  decide +kernel

theorem extract_append_v7 (a : BitVec 2) (b : BitVec 5) :
    (a ++ b).extractLsb' 5 2 = a ∧ (a ++ b).extractLsb' 0 5 = b := by
  revert a b
  decide +kernel

end Sys2Proof.Machine
end

section
/-! Decoding and encoding (R79): a word that holds a legal request's operands builds that request, and a word
from which a legal request is built holds its operands. -/

namespace Sys2Proof.Machine

/-! ## Building a request from a word that holds its operands -/

/-- What a word that holds the operands reads, the row and the packer written out. -/
theorem Placement.HeldBy.reads {p : Placement} {w : Word} (h : p.HeldBy w) {n : FormatName}
    {values : List (FieldName × FieldValue)} {k : Word} {fields : List Field} (hp : p = ⟨n, values⟩)
    (hf : Formats.default n = ⟨k, fields⟩) : HoldsOperands w values fields := by
  subst hp
  rwa [Placement.HeldBy, hf] at h

/-- What is built of a word, written out. -/
theorem build_eq_some_of_eq {op : OpCode} {w : Word} {b i : Instr} (hb : build op w = some b)
    (h : b = i) : build op w = some i := h ▸ hb

theorem build_of_heldBy {i : Instr} (h : i.wellFormed = true) {w : Word} (hw : i.placement.HeldBy w) :
    build i.op w = some i := by
  cases i
  case setffr => rfl
  all_goals
    refine build_eq_some_of_eq rfl ?_
    replace hw := hw.reads rfl rfl
    dsimp only [HoldsOperands, Field.width, Nat.reduceSub, Nat.reduceAdd] at hw
    simp only [BitVec.ofNat_toNat, BitVec.setWidth_eq] at hw
    simp only [Instr.wellFormed, Bool.and_eq_true, sameRegister_eq, decide_eq_true_eq,
      legalSize_singleton, sequential_two, sequential_three, sequential_four] at h
    simp only [hw, h, sizeOfCode_sizecode, sizeOfCode_sizecode_64, legalSize_from_16,
      legalSize_from_32, legalSize_to_32,
      sizeOfCode_dtype, narrowSizeOfCode_sizecode, fcvtSizes_fcvtTable, setWidth_lowPredicate,
      govPred_eq, styleOfBit_mergeBit, rotation_oddRotation, rotation_div, signExtend_modField_16,
      signExtend_modField_32, signExtend_modField_64, signExtend_scaledField_2,
      signExtend_scaledField_3, signExtend_scaledField_4, setWidth_5_of_inInterval,
      setWidth_7_of_inInterval, append_extract_of_inInterval, append_extract_v7,
      indexed_indexedImmediate, codec_shiftFields_left, codec_shiftFields_right,
      codec_shiftFields_narrow, codec_shiftFields_wide]

/-! ## The operands that a word of which a request is built holds -/

/-- A row and a packer written out decide whether a word holds the operands. -/
theorem Placement.HeldBy.of_eq {p : Placement} {w : Word} {n : FormatName}
    {values : List (FieldName × FieldValue)} {k : Word} {fields : List Field} (hp : p = ⟨n, values⟩)
    (hf : Formats.default n = ⟨k, fields⟩) (h : HoldsOperands w values fields) : p.HeldBy w := by
  subst hp
  rwa [Placement.HeldBy, hf]

/-- A word from which a legal request is built holds the request's operands. -/
theorem heldBy_of_build {op : OpCode} {w : Word} {i : Instr} (hb : build op w = some i)
    (h : i.wellFormed = true) (hd : dtypes op = [] ∨ w.extractLsb' 21 4 ∈ dtypes op) :
    i.placement.HeldBy w := by
  have hdtype := dtype_sizeOfCode hd
  cases op
  case ld1b | ld1sw | ld1h | ld1sh | ld1w | ld1sb | ld1d | st1b | st1h | st1w | st1d => cases hb
  case setffr => cases hb; exact trivial
  all_goals
    obtain rfl := Option.some.inj hb
    refine .of_eq rfl rfl ?_
    dsimp only [HoldsOperands, Field.width, Nat.reduceSub, Nat.reduceAdd]
    simp only [Instr.wellFormed, Bool.and_eq_true] at h
    simp only [BitVec.ofNat_toNat, BitVec.setWidth_eq, and_true, true_or, or_true, h, hdtype, setWidth_setWidth_fields,
      sizecode_sizeOfCode, sizecode_narrowSizeOfCode, fcvtTable_fcvtSizes, mergeBit_styleOfBit,
      oddRotation_rotation, div_rotation, modField_16_signExtend, modField_32_signExtend,
      modField_64_signExtend, scaledField_signExtend, extract_setWidth_append,
      indexedImmediate_indexed, extract_append_v7, shiftFields_codec, legalSize_to_32,
      extract_zero_append, widening_codecSize]

/-- What is built for an operation is a request of that operation. -/
theorem op_of_build {op : OpCode} {w : Word} {i : Instr} (hb : build op w = some i) : i.op = op := by
  cases op <;> cases hb <;> rfl

/-! ## The round trips -/

/-- A word that holds a legal load's operands has one of the operation's `dtype` values. -/
theorem dtype_of_heldBy {i : Instr} (h : i.wellFormed = true) {w : Word} (hw : i.placement.HeldBy w) :
    dtypes i.op = [] ∨ w.extractLsb' 21 4 ∈ dtypes i.op := by
  cases i
  case ld1swSs | ld1swSi | ld1dSs | ld1dSi =>
    obtain ⟨hread, -⟩ := hw.reads rfl rfl
    exact .inr (Eq.substr hread (List.mem_singleton.2 rfl))
  case ld1bSs size _ _ _ _ | ld1bSi size _ _ _ _ =>
    obtain ⟨hmem, -⟩ := dtype_mem_of_legalSize (size := size)
    obtain ⟨hread, -⟩ := hw.reads rfl rfl
    simp only [Instr.wellFormed, Bool.and_eq_true] at h
    exact .inr (Eq.substr hread (hmem (by simp only [h])))
  case ld1hSs size _ _ _ _ | ld1hSi size _ _ _ _ =>
    obtain ⟨-, hmem, -⟩ := dtype_mem_of_legalSize (size := size)
    obtain ⟨hread, -⟩ := hw.reads rfl rfl
    simp only [Instr.wellFormed, Bool.and_eq_true] at h
    exact .inr (Eq.substr hread (hmem (by simp only [h])))
  case ld1wSs size _ _ _ _ | ld1wSi size _ _ _ _ =>
    obtain ⟨-, -, hmem, -⟩ := dtype_mem_of_legalSize (size := size)
    obtain ⟨hread, -⟩ := hw.reads rfl rfl
    simp only [Instr.wellFormed, Bool.and_eq_true] at h
    exact .inr (Eq.substr hread (hmem (by simp only [h])))
  case ld1shSs size _ _ _ _ | ld1shSi size _ _ _ _ =>
    obtain ⟨-, -, -, hmem, -⟩ := dtype_mem_of_legalSize (size := size)
    obtain ⟨hread, -⟩ := hw.reads rfl rfl
    simp only [Instr.wellFormed, Bool.and_eq_true] at h
    exact .inr (Eq.substr hread (hmem (by simp only [h])))
  case ld1sbSs size _ _ _ _ | ld1sbSi size _ _ _ _ =>
    obtain ⟨-, -, -, -, hmem⟩ := dtype_mem_of_legalSize (size := size)
    obtain ⟨hread, -⟩ := hw.reads rfl rfl
    simp only [Instr.wellFormed, Bool.and_eq_true] at h
    exact .inr (Eq.substr hread (hmem (by simp only [h])))
  all_goals exact .inl rfl

/-- A word is read as an operation exactly where it has one of the operation's patterns. -/
theorem identify_eq_some_iff {w : Word} {op : OpCode} :
    identify w = some op ↔ ∃ p ∈ patterns, p.op = op ∧ w &&& p.mask = p.value := by
  rw [identify, Option.map_eq_some_iff]
  constructor
  · rintro ⟨p, hfind, hop⟩
    have hw := List.find?_some hfind
    exact ⟨p, List.mem_of_find?_eq_some hfind, hop, eq_of_beq hw⟩
  · rintro ⟨p, hp, hop, hw⟩
    exact ⟨p, find_pattern patternsWithDtypeDifferOnABitFixedInBoth hp hw, hop⟩

/-- Decoding reads the operation and builds its request. -/
theorem decodeWord_eq_ok_iff {w : Word} {i : Instr} :
    decodeWord w = .ok i ↔ identify w = some i.op ∧ build i.op w = some i := by
  unfold decodeWord
  refine ⟨fun h => ?_, fun ⟨hop, hb⟩ => by simp only [hop, hb]⟩
  split at h
  next => cases h
  next op hop =>
    split at h
    next => cases h
    next j hb =>
      obtain rfl := Except.ok.inj h
      obtain rfl := op_of_build hb
      exact ⟨hop, hb⟩

/-- The word of a legal request has a pattern of its operation. -/
theorem exists_pattern_encode {i : Instr} (h : i.wellFormed = true) :
    ∃ p ∈ patterns, p.op = i.op ∧ i.encode &&& p.mask = p.value := by
  refine exists_pattern_iff.2 ⟨?_, dtype_of_heldBy h (encode_heldBy h)⟩
  have hfixed := fixedValue_and_not_operandMask i
  rw [encode_eq_of_heldBy h (encode_heldBy h), or_and_word, hfixed, BitVec.and_assoc,
    BitVec.and_not_self]
  exact (congrArg _ BitVec.and_zero).trans BitVec.or_zero

/-- Settles O10: the word has a pattern of the operation, and holds the operands. -/
theorem decodingTheWordOfALegalRequestGivesTheRequest :
    Obligations.DecodingTheWordOfALegalRequestGivesTheRequest := fun _ h =>
  decodeWord_eq_ok_iff.2 ⟨identify_eq_some_iff.2 (exists_pattern_encode h), build_of_heldBy h (encode_heldBy h)⟩

/-- Settles O11: the word has the fixed bits of the request's row and holds its operands, and no bit is left. -/
theorem aWordThatDecodesToALegalRequestIsItsWord :
    Obligations.AWordThatDecodesToALegalRequestIsItsWord := by
  intro w i hdecode h
  obtain ⟨hop, hb⟩ := decodeWord_eq_ok_iff.1 hdecode
  obtain ⟨hfixed, hdtype⟩ := exists_pattern_iff.1 (identify_eq_some_iff.1 hop)
  rw [encode_eq_of_heldBy h (heldBy_of_build hb h hdtype), ← hfixed, and_or_and_word, BitVec.or_comm,
    BitVec.or_not_self]
  exact BitVec.and_allOnes

/-- Settles O12: the word decodes to one request. -/
theorem distinctLegalRequestsHaveDistinctWords : Obligations.DistinctLegalRequestsHaveDistinctWords := by
  intro i j hi hj hword
  have hdecode := decodingTheWordOfALegalRequestGivesTheRequest i hi
  rw [hword, decodingTheWordOfALegalRequestGivesTheRequest j hj] at hdecode
  exact (Except.ok.inj hdecode).symm

/-- Settles O14: only a legal request appends, and what it appends under the default table is its word. -/
theorem appendedWordHasItsOperationsFixedBits : Obligations.AppendedWordHasItsOperationsFixedBits := by
  intro i s w ht hs hexec
  rcases exec_cases i s with ⟨hhalted, -⟩ | ⟨-, hi, he⟩ | ⟨-, -, cause, value, he⟩
  · simp [hs] at hhalted
  · obtain rfl := State.append_inj.1 (Host.Outcome.next.inj (hexec.symm.trans he))
    rw [State.wordOf_eq_encode ht hi]
    exact exists_pattern_encode hi
  · have hhalted := congrArg State.halted (Host.Outcome.next.inj (hexec.symm.trans he))
    simp [hs] at hhalted

end Sys2Proof.Machine
end

section
/-! The outcome of a request as the request's own (R168): its word under the run's table or its raise, fixed
before the state; and the request that a step runs (R160). -/

namespace Sys2Proof.Machine

/-! ## Completion -/

/-- Settles O8: a legal request appends the word of the table, which under the default is the encoder's. -/
theorem everyLegalRequestAppendsItsWord : Obligations.EveryLegalRequestAppendsItsWord := by
  intro i s ht hs hi
  have hword : s.wordOf i = i.encode := State.wordOf_eq_encode ht hi
  exact ⟨hword ▸ exec_of_wellFormed hs hi, hword⟩

/-! ## One outcome for every state -/

/-- The check that an illegal request fails first is the same in every state (R168), and so is the raise. -/
theorem exists_exec_eq_raise {i : Instr} (hi : i.wellFormed = false) :
    ∃ cause value, ∀ s : State, s.halted = false → exec i s = .next (s.raise i.op cause value) := by
  obtain ⟨checks, hexec, hok⟩ := exec_eq_perform i
  cases hc : firstFailed checks with
  | none => exact absurd (hok.2 (firstFailed_eq_none.1 hc)) (by simp [hi])
  | some c => exact ⟨c.cause, c.value, fun s hs => by rw [hexec, perform_raised hs hc]⟩

/-- A legal request's word is that of the run's table, whatever else the state holds. -/
theorem exec_of_wellFormed_table {i : Instr} (hi : i.wellFormed = true) {table : FormatTable} {s : State}
    (ht : s.formatTable = table) (hs : s.halted = false) :
    exec i s = .next (s.append (table.word i.op i.placement)) := by
  rw [exec_of_wellFormed hs hi, State.wordOf, ht]

/-- A target's append is forwarded as it is (R167). -/
theorem execForwarded_of_append {p : PolyOp} {i : Instr} {s : State} {w : Word} (hs : s.halted = false)
    (h : exec i s = .next (s.append w)) : execForwarded p i s = .next (s.append w) := by
  rw [execForwarded_next h]
  simp [hs]

/-- A target's raise is forwarded with the recorded name alone changed (R167, log 6). -/
theorem execForwarded_of_raise {p : PolyOp} {i : Instr} {s : State} {op : OpCode} {cause : Cause}
    {value : BitVec 32} (hs : s.halted = false) (h : exec i s = .next (s.raise op cause value)) :
    execForwarded p i s = .next (s.raise (forwardedName p op) cause value) := by
  rw [execForwarded_next h]
  simp [hs, State.raise]

/-- One outcome in every state with the table and the latch clear: a word appended, or a raise under the name. -/
def OneOutcome (table : FormatTable) (op : OpCode) (run : State → Result) : Prop :=
  (∃ w, ∀ s : State, s.formatTable = table → s.halted = false → run s = .next (s.append w)) ∨
  (∃ cause value, ∀ s : State, s.halted = false → run s = .next (s.raise op cause value))

/-- The outcome of an operation is decided by its preconditions, which no state enters. -/
theorem exec_oneOutcome (table : FormatTable) (i : Instr) : OneOutcome table i.op (exec i) := by
  cases hi : i.wellFormed with
  | true => exact .inl ⟨_, fun _ => exec_of_wellFormed_table hi⟩
  | false => exact .inr (exists_exec_eq_raise hi)

/-- Forwarding keeps the target's outcome; the name it records is no state's matter either (log 6). -/
theorem execForwarded_oneOutcome (table : FormatTable) (p : PolyOp) (i : Instr) :
    OneOutcome table (forwardedName p i.op) (execForwarded p i) := by
  rcases exec_oneOutcome table i with ⟨w, happend⟩ | ⟨cause, value, hraise⟩
  · exact .inl ⟨w, fun s ht hs => execForwarded_of_append hs (happend s ht hs)⟩
  · exact .inr ⟨cause, value, fun s hs => execForwarded_of_raise hs (hraise s hs)⟩

/-- An unwired tag raises its code in every state (R84). -/
theorem execUnwired_oneOutcome (table : FormatTable) (p : PolyOp) (mem : MemoryOperand) :
    OneOutcome table p.code (execUnwired p mem) :=
  .inr ⟨.addressingMode, mem.tag.setWidth 32, fun s hs => by
    rw [execUnwired_eq, hs, if_neg Bool.false_ne_true]⟩

/-- A polymorphic request has one outcome, tag by tag (R167, R318). -/
theorem execPolymorphic_oneOutcome (table : FormatTable) (p : PolyOp) (size : ReqInt) (zt : VReg)
    (pg : GovPred) (mem : MemoryOperand) :
    ∃ op, OneOutcome table op (execPolymorphic p size zt pg mem) := by
  cases mem with
  | scalarScalar rn rm => exact ⟨_, execForwarded_oneOutcome table p _⟩
  | scalarImm rn imm => exact ⟨_, execForwarded_oneOutcome table p _⟩
  | scalarVector rn zm => exact ⟨_, execUnwired_oneOutcome table p _⟩
  | vectorImm zn imm => exact ⟨_, execUnwired_oneOutcome table p _⟩

/-- Settles O7: an operation's outcome comes from its checks and its row, a polymorphic request's from the
target of its tag or from the tag itself. -/
theorem outcomeDependsOnTheRequestAlone : Obligations.OutcomeDependsOnTheRequestAlone := by
  refine ⟨exec_oneOutcome, fun table p size zt pg mem => ?_⟩
  obtain ⟨op, happend | hraise⟩ := execPolymorphic_oneOutcome table p size zt pg mem
  exacts [.inl happend, .inr ⟨op, hraise⟩]

/-! ## The request that a step runs -/

/-- A word that the decoder reads as an operation presents that operation's request (log 10). -/
theorem requestOfTableWord_of_decode {nbits w : Nat} {i : Instr} (h : decodeTableWord nbits w = some i) :
    requestOfTableWord nbits w = .direct i ⟨1, 1, 1⟩ := by
  simp only [requestOfTableWord, h]

/-- A step takes the request that `withFetchWord` presents, and the port is what it was before (logs 7, 10). -/
theorem step_withFetchWord {s : State} {nbits w : Nat} {i : Instr} (h : decodeTableWord nbits w = some i) :
    step (s.withFetchWord nbits w) = exec i s := by
  have hport : (s.withFetchWord nbits w).port = .request (.direct i ⟨1, 1, 1⟩) :: s.port := by
    rw [State.withFetchWord_port, requestOfTableWord_of_decode h]
  exact step_direct hport

/-- Settles O15: a clause for each kind of request, and one for a word. -/
theorem stepRunsTheRequestPresentedFirst : Obligations.StepRunsTheRequestPresentedFirst :=
  ⟨fun _ _ _ _ => step_direct, fun _ _ _ _ _ _ _ _ => step_polymorphic, fun _ _ _ _ => step_withFetchWord⟩

end Sys2Proof.Machine
end

section
/-! A rule of the spec and the model's operation side by side: the `require` lines are the operation's checks,
and the word that the rule writes is the encoder's, which the default table builds (R164, R178). -/

namespace Sys2Proof.Machine

/-! ## The checks as the rules write their lines -/

theorem requireSize_eq (legal : List ReqInt) (size : ReqInt) :
    requireSize legal size = ⟨decide (size ∈ legal), .elementSize, size⟩ := by
  rw [requireSize, legalSize_eq]

theorem requireLowPredicate_eq (pg : GovPred) :
    requireLowPredicate pg = ⟨decide (pg.idx ≤ 7), .operandRange, pg.idx.setWidth 32⟩ := rfl

theorem requireStyle_singleton (st : BitVec 2) (pg : GovPred) :
    requireStyle [st] pg = ⟨decide (pg.style = st), .operandRange, pg.style.setWidth 32⟩ := by
  simp only [requireStyle, styleIn_eq, List.mem_singleton]

theorem requireSame_eq {n : Nat} (a b : BitVec n) :
    requireSame a b = ⟨decide (a = b), .aliasing, a.setWidth 32⟩ := by
  rw [requireSame, sameRegister_eq]

theorem requireRotation_eq (legal : List ReqInt) (rot : ReqInt) :
    requireRotation legal rot = ⟨decide (rot ∈ legal), .immediateRange, rot⟩ := by
  rw [requireRotation, legalRotation_eq]

/-! ## The word as the rules write it -/

/-- Where all the checks that an operation performs hold, the request is legal: an illegal one would raise. -/
theorem wellFormed_of_checks {i : Instr} {cs : List Check}
    (h : ∀ s, exec i s = perform i.op cs i.placement s) (hc : ∀ c ∈ cs, c.ok = true) :
    i.wellFormed = true := by
  by_contra hi
  obtain ⟨cause, value, hraise⟩ :=
    exec_of_not_wellFormed State.reset_halted (Bool.eq_false_iff.2 hi)
  rw [h, perform_accepted State.reset_halted (firstFailed_eq_none.2 hc)] at hraise
  have hhalted := congrArg State.halted (Host.Outcome.next.inj hraise)
  simp at hhalted

/-- An operation follows the rule whose lines are its checks and whose word is the encoder's: where the lines
hold the request is legal, and the default table builds the encoder's word. -/
theorem follows_of_encode {i : Instr} {cs lines : List Check} {w : Word}
    (h : ∀ s, exec i s = perform i.op cs i.placement s) (hc : cs = lines) (hw : i.encode = w) :
    Follows i lines w := by
  refine follows_of_perform h hc fun hok => ?_
  rw [FormatTable.default_word_eq_encode (wellFormed_of_checks h (hc ▸ hok)), hw]

/-- The fields ORed into the `match` one by one, and the fields ORed together first. -/
theorem or_three_fields (k a b c : Word) : k ||| a ||| b ||| c = k ||| (a ||| b ||| c) := by
  simp only [BitVec.or_assoc]

theorem or_four_fields (k a b c d : Word) : k ||| a ||| b ||| c ||| d = k ||| (a ||| b ||| c ||| d) := by
  simp only [BitVec.or_assoc]

end Sys2Proof.Machine
end

section
/-! The integer arithmetic and logical operations follow their rules (R202 to R227). -/

namespace Sys2Proof.Machine

/-- The lines of the predicated destructive operations, R208 to R220. -/
theorem predicatedChecks_eq (size : ReqInt) (zd : VReg) (pg : GovPred) (zn : VReg) :
    [requireSize [8, 16, 32, 64] size, requireLowPredicate pg, requireStyle [Style.merging] pg,
      requireSame zd zn] =
    [⟨decide (size ∈ [(8 : ReqInt), 16, 32, 64]), .elementSize, size⟩,
      ⟨decide (pg.idx ≤ 7), .operandRange, pg.idx.setWidth 32⟩,
      ⟨decide (pg.style = Style.merging), .operandRange, pg.style.setWidth 32⟩,
      ⟨decide (zd = zn), .aliasing, zd.setWidth 32⟩] := by
  rw [requireSize_eq, requireLowPredicate_eq, requireStyle_singleton, requireSame_eq]

/-- Settles O28: the one line of the operations with a size is their check, the others have none, and the
words are the encoder's. -/
theorem addSubtractAndLogicalUnpredicatedFollowTheirRules :
    Obligations.AddSubtractAndLogicalUnpredicatedFollowTheirRules := by
  refine ⟨fun size zd zn zm => ?arithmetic, fun zd zn zm => ?logical⟩
  case arithmetic =>
    and_intros
    all_goals
      refine follows_of_encode (fun _ => rfl) ?_ (or_four_fields ..)
      rw [requireSize_eq]
  case logical =>
    and_intros
    all_goals exact follows_of_encode (fun _ => rfl) rfl (or_three_fields ..)

/-- Settles O29: nine operations with the lines of the predicated operations and the encoder's words. -/
theorem addSubtractMinMaxDifferencePredicatedFollowTheirRules :
    Obligations.AddSubtractMinMaxDifferencePredicatedFollowTheirRules := by
  intro size zd pg zn zm
  have hlines := predicatedChecks_eq size zd pg zn
  and_intros
  all_goals exact follows_of_encode (fun _ => rfl) hlines (or_four_fields ..)

/-- Settles O30: the logical operations have the lines of the predicated operations, the complex ones a
rotation for the predicate; the words are the encoder's. -/
theorem logicalPredicatedAndIntegerComplexFollowTheirRules :
    Obligations.LogicalPredicatedAndIntegerComplexFollowTheirRules := by
  refine ⟨fun size zd pg zn zm => ?logical, fun size zd zn zm rot => ?complexAdd,
    fun size zda zn zm rot => ?complexMultiplyAdd⟩
  case logical =>
    have hlines := predicatedChecks_eq size zd pg zn
    and_intros
    all_goals exact follows_of_encode (fun _ => rfl) hlines (or_four_fields ..)
  case complexAdd =>
    and_intros
    all_goals
      refine follows_of_encode (fun _ => rfl) ?_ (or_four_fields ..)
      rw [requireSize_eq, requireRotation_eq, requireSame_eq]
  case complexMultiplyAdd =>
    refine follows_of_encode (fun _ => rfl) ?_ rfl
    rw [requireSize_eq, requireRotation_eq]

end Sys2Proof.Machine
end

section
/-! Table words read by the decoder (log 10): the word of a legal request is read as the request. -/

namespace Sys2Proof.Machine

/-- Reading a table word decodes the word itself: laid out in bytes and put together again it is the same. -/
theorem decodeTableWord_toNat (w : Word) : decodeTableWord 32 w.toNat = (decodeWord w).toOption := by
  have hw : BitVec.ofNat 32 (w.toNat % 2 ^ 32) = w := by
    rw [Nat.mod_eq_of_lt w.isLt, BitVec.ofNat_toNat, BitVec.setWidth_eq]
  simp only [decodeTableWord, decodeBytes, hw, wordOfBytes_wordByte]
  cases decodeWord w <;> rfl

/-- The word of a legal request, read as a table word, is that request (R79). -/
theorem decodeTableWord_encode {i : Instr} (h : i.wellFormed = true) :
    decodeTableWord 32 i.encode.toNat = some i := by
  rw [decodeTableWord_toNat, decodingTheWordOfALegalRequestGivesTheRequest i h, Except.toOption]

/-- A word that has the fixed bits of no operation is no request (log 10). -/
theorem decodeWord_of_identify_none {w : Word} (h : identify w = none) :
    decodeWord w = .error .noOperation := by
  simp only [decodeWord, h]

/-- Settles O26: the six words are those of legal requests, so they are read as them; the word 0 has no
pattern's fixed bits. -/
theorem wordsWrittenOutFromTheSpecDecode : Obligations.WordsWrittenOutFromTheSpecDecode := by
  have hzero : identify 0 = none := by decide
  exact
    ⟨decodeTableWord_encode (i := .addUnpred 32 0 1 2) (by decide),
     decodeTableWord_encode (i := .ptrue 32 0 31) (by decide),
     decodeTableWord_encode (i := .ld1wSi 32 0 ⟨0, Style.zeroing⟩ 0 0) (by decide),
     decodeTableWord_encode (i := .st1wSi 32 2 ⟨0, Style.plain⟩ 2 0) (by decide),
     decodeTableWord_encode (i := .st2dSs 31 0 ⟨2, Style.plain⟩ 0 7) (by decide),
     decodeTableWord_encode (i := .movprfxPred 64 31 ⟨7, Style.zeroing⟩ 30) (by decide),
     (decodeTableWord_toNat 0).trans (congrArg Except.toOption (decodeWord_of_identify_none hzero))⟩

end Sys2Proof.Machine
end

section
/-! The integer compares follow their rules (R229 to R244). -/

namespace Sys2Proof.Machine

/-- The fields of a compare ORed into the `match` one by one, and the fields ORed together first. -/
theorem or_five_fields (k a b c d e : Word) :
    k ||| a ||| b ||| c ||| d ||| e = k ||| (a ||| b ||| c ||| d ||| e) := by
  simp only [BitVec.or_assoc]

/-- The lines that every compare begins with: those of the vector compares, R239 to R244. -/
theorem compareChecks_eq (size : ReqInt) (pg : GovPred) :
    [requireSize [8, 16, 32, 64] size, requireLowPredicate pg, requireStyle [Style.zeroing] pg] =
    [⟨decide (size ∈ [(8 : ReqInt), 16, 32, 64]), .elementSize, size⟩,
      ⟨decide (pg.idx ≤ 7), .operandRange, pg.idx.setWidth 32⟩,
      ⟨decide (pg.style = Style.zeroing), .operandRange, pg.style.setWidth 32⟩] := by
  rw [requireSize_eq, requireLowPredicate_eq, requireStyle_singleton]

/-- The lines of the compares with an immediate in `[lo, hi]`, R229 to R238. -/
theorem compareImmediateChecks_eq (lo hi : Int) (size : ReqInt) (pg : GovPred) (imm : ReqInt) :
    [requireSize [8, 16, 32, 64] size, requireLowPredicate pg, requireStyle [Style.zeroing] pg,
      requireInterval lo hi imm] =
    [⟨decide (size ∈ [(8 : ReqInt), 16, 32, 64]), .elementSize, size⟩,
      ⟨decide (pg.idx ≤ 7), .operandRange, pg.idx.setWidth 32⟩,
      ⟨decide (pg.style = Style.zeroing), .operandRange, pg.style.setWidth 32⟩,
      ⟨decide (lo ≤ imm.toInt ∧ imm.toInt ≤ hi), .immediateRange, imm⟩] :=
  congrArg (· ++ [requireInterval lo hi imm]) (compareChecks_eq size pg)

/-- Settles O31: six operations with the signed interval and four with the unsigned one, each with the
lines of its interval and the encoder's word. -/
theorem compareWithImmediateFollowTheirRules : Obligations.CompareWithImmediateFollowTheirRules := by
  refine ⟨fun size pd pg zn imm => ?signed, fun size pd pg zn imm => ?unsigned⟩
  case signed =>
    have hlines := compareImmediateChecks_eq (-16) 15 size pg imm
    and_intros
    all_goals exact follows_of_encode (fun _ => rfl) hlines (or_five_fields ..)
  case unsigned =>
    have hlines := compareImmediateChecks_eq 0 127 size pg imm
    and_intros
    all_goals exact follows_of_encode (fun _ => rfl) hlines (or_five_fields ..)

/-- Settles O32: six operations with the lines that every compare begins with, and the encoder's words. -/
theorem compareVectorsFollowTheirRules : Obligations.CompareVectorsFollowTheirRules := by
  intro size pd pg zn zm
  have hlines := compareChecks_eq size pg
  and_intros
  all_goals exact follows_of_encode (fun _ => rfl) hlines (or_five_fields ..)

end Sys2Proof.Machine
end

section
/-! The permutes, the table lookups, the indexed duplicate, the extract and the splice follow their rules
(R248 to R260). -/

namespace Sys2Proof.Machine

/-- The line of a pair of registers in sequence (R170), as the constructive forms have it. -/
theorem requireSequence_singleton (first z : VReg) :
    requireSequence first [z] =
      ⟨decide (z.toNat = (first.toNat + 1) % 32), .aliasing, first.setWidth 32⟩ := by
  have hok : sequential first [z] = decide (z = first + 1) := by
    rw [sequential_cons, sequential_nil, Bool.and_true, beq_eq_decide]
  have hnext : z = first + 1 ↔ z.toNat = (first.toNat + 1) % 32 := eq_add_iff first z 1
  rw [requireSequence, hok, decide_eq_decide.2 hnext]

/-- The line of an immediate's range (R71, R74) is written in the model as in the rules. -/
theorem requireInterval_eq (lo hi : Int) (imm : ReqInt) :
    requireInterval lo hi imm =
      ⟨decide (lo ≤ imm.toInt ∧ imm.toInt ≤ hi), .immediateRange, imm⟩ := rfl

/-- The line of an element's index (R73): there are `512 / size` of them. -/
theorem requireIndex_eq (size index : ReqInt) :
    requireIndex size index =
      ⟨decide (0 ≤ index.toInt ∧ index.toInt < 512 / size.toInt), .immediateRange, index⟩ := rfl

/-- Settles O33: eight operations with the one line of their size as their check, and the encoder's words. -/
theorem permuteAndTableLookupFollowTheirRules : Obligations.PermuteAndTableLookupFollowTheirRules := by
  intro size zd zn zm
  and_intros
  all_goals
    refine follows_of_encode (fun _ => rfl) ?_ (or_four_fields ..)
    rw [requireSize_eq]

/-- Settles O34: the destructive forms end in the line of equal registers and the constructive ones in that
of a register sequence; the words are the encoder's as they stand. -/
theorem indexedDuplicateExtractSpliceFollowTheirRules :
    Obligations.IndexedDuplicateExtractSpliceFollowTheirRules := by
  refine ⟨fun size zd zn index => ?duplicate, fun zd zn zm imm => ?extDestructive,
    fun zd zn zm imm => ?extConstructive, fun size zd pv zn zm => ?spliceDestructive,
    fun size zd pv zn zm => ?spliceConstructive⟩
  all_goals refine follows_of_encode (fun _ => rfl) ?_ rfl
  case duplicate => rw [requireSize_eq, requireIndex_eq]
  case extDestructive => rw [requireInterval_eq, requireSame_eq]
  case extConstructive => rw [requireInterval_eq, requireSequence_singleton]
  case spliceDestructive =>
    rw [requireSize_eq, requireLowPredicate_eq, requireStyle_singleton, requireSame_eq]
  case spliceConstructive =>
    rw [requireSize_eq, requireLowPredicate_eq, requireStyle_singleton, requireSequence_singleton]

end Sys2Proof.Machine
end

section
/-! The predicated multiply and divide and the reductions follow their rules (R262 to R277). -/

namespace Sys2Proof.Machine

/-- The lines of a size, a governing predicate and its style, whichever sizes and style the rule names. -/
theorem governedChecks_eq (legal : List ReqInt) (st : BitVec 2) (size : ReqInt) (pg : GovPred) :
    [requireSize legal size, requireLowPredicate pg, requireStyle [st] pg] =
    [⟨decide (size ∈ legal), .elementSize, size⟩,
      ⟨decide (pg.idx ≤ 7), .operandRange, pg.idx.setWidth 32⟩,
      ⟨decide (pg.style = st), .operandRange, pg.style.setWidth 32⟩] := by
  rw [requireSize_eq, requireLowPredicate_eq, requireStyle_singleton]

/-- The lines of the predicated divides, R265 to R268: those of the predicated operations with the sizes of
a divide. -/
theorem divideChecks_eq (size : ReqInt) (zd : VReg) (pg : GovPred) (zn : VReg) :
    [requireSize [32, 64] size, requireLowPredicate pg, requireStyle [Style.merging] pg,
      requireSame zd zn] =
    [⟨decide (size ∈ [(32 : ReqInt), 64]), .elementSize, size⟩,
      ⟨decide (pg.idx ≤ 7), .operandRange, pg.idx.setWidth 32⟩,
      ⟨decide (pg.style = Style.merging), .operandRange, pg.style.setWidth 32⟩,
      ⟨decide (zd = zn), .aliasing, zd.setWidth 32⟩] :=
  congrArg₂ (· ++ [·]) (governedChecks_eq [32, 64] Style.merging size pg) (requireSame_eq zd zn)

/-- Settles O35: three multiplies with the lines of the predicated operations and four divides with those of
the divides; the words are the encoder's. -/
theorem multiplyDividePredicatedFollowTheirRules :
    Obligations.MultiplyDividePredicatedFollowTheirRules := by
  refine ⟨fun size zd pg zn zm => ?multiply, fun size zd pg zn zm => ?divide⟩
  case multiply =>
    have hlines := predicatedChecks_eq size zd pg zn
    and_intros
    all_goals exact follows_of_encode (fun _ => rfl) hlines (or_four_fields ..)
  case divide =>
    have hlines := divideChecks_eq size zd pg zn
    and_intros
    all_goals exact follows_of_encode (fun _ => rfl) hlines (or_four_fields ..)

/-- Settles O36: the signed add has the narrower sizes and its word as it stands, the other eight reductions
all four sizes and the encoder's words. -/
theorem reductionsFollowTheirRules : Obligations.ReductionsFollowTheirRules := by
  refine ⟨fun size vd pg zn => ?signedAdd, fun size vd pg zn => ?others⟩
  case signedAdd =>
    exact follows_of_encode (fun _ => rfl) (governedChecks_eq [8, 16, 32] Style.plain size pg) rfl
  case others =>
    have hlines := governedChecks_eq [8, 16, 32, 64] Style.plain size pg
    and_intros
    all_goals exact follows_of_encode (fun _ => rfl) hlines (or_four_fields ..)

end Sys2Proof.Machine
end

section
/-! The predicate operations follow their rules (R280 to R315). -/

namespace Sys2Proof.Machine

/-! ## The lines of a predicate operation -/

/-- The line of a predication style, whichever styles the rule names (R77, R173). -/
theorem requireStyle_eq (supported : List (BitVec 2)) (pg : GovPred) :
    requireStyle supported pg =
      ⟨decide (pg.style ∈ supported), .operandRange, pg.style.setWidth 32⟩ := by
  rw [requireStyle, styleIn_eq]

/-- The one line of the operations governed by a predicate of a 4-bit field: its style. Any of p0..p15 may
govern them (R64). -/
theorem styleChecks_eq (st : BitVec 2) (pg : GovPred) :
    [requireStyle [st] pg] = [⟨decide (pg.style = st), .operandRange, pg.style.setWidth 32⟩] := by
  rw [requireStyle_singleton]

/-- The lines of the destructive predicate operations, R303, R304 and R309. -/
theorem styleSameChecks_eq (st : BitVec 2) (pg : GovPred) (p q : PReg) :
    [requireStyle [st] pg, requireSame p q] =
    [⟨decide (pg.style = st), .operandRange, pg.style.setWidth 32⟩,
      ⟨decide (p = q), .aliasing, p.setWidth 32⟩] := by
  rw [requireStyle_singleton, requireSame_eq]

/-! ## The rules -/

/-- Settles O37: nine operations want a zeroing predicate and the select a plain one; its word is written as
the encoder's, theirs with the fields ORed together first. -/
theorem predicateLogicalFollowTheirRules : Obligations.PredicateLogicalFollowTheirRules := by
  refine ⟨fun pd pg pn pm => ?first, fun pd pg pn pm => ?select, fun pd pg pn pm => ?rest⟩
  case select => exact follows_of_encode (fun _ => rfl) (styleChecks_eq Style.plain pg) rfl
  case first | rest =>
    have hlines := styleChecks_eq Style.zeroing pg
    and_intros
    all_goals exact follows_of_encode (fun _ => rfl) hlines (or_four_fields ..)

/-- Settles O38: five logical operations and four propagating breaks, each with a zeroing predicate and the
encoder's word. -/
theorem predicateLogicalRestAndPropagatingBreaksFollowTheirRules :
    Obligations.PredicateLogicalRestAndPropagatingBreaksFollowTheirRules := by
  intro pd pg pn pm
  have hlines := styleChecks_eq Style.zeroing pg
  and_intros
  all_goals exact follows_of_encode (fun _ => rfl) hlines (or_four_fields ..)

/-- Settles O39: the breaks that leave the flags alone may merge or zero and place the style's bit, the others
zero; the break to the next partition is destructive as well. -/
theorem partitionBreaksFollowTheirRules : Obligations.PartitionBreaksFollowTheirRules := by
  refine ⟨fun pd pg pn => ?after, fun pd pg pn => ?afterFlags, fun pd pg pn => ?before,
    fun pd pg pn => ?beforeFlags, fun pd pg pn pm => ?nextPartition⟩
  case after | before =>
    refine follows_of_encode (fun _ => rfl) ?_ rfl
    rw [requireStyle_eq]
  case afterFlags | beforeFlags =>
    exact follows_of_encode (fun _ => rfl) (styleChecks_eq Style.zeroing pg) rfl
  case nextPartition =>
    have hlines := styleSameChecks_eq Style.zeroing pg pd pm
    and_intros
    all_goals exact follows_of_encode (fun _ => rfl) hlines (or_three_fields ..)

/-- Settles O40: the lines follow the operands that each operation has, and an operation without a size, an
immediate and a governing predicate has none; the words are the encoder's. -/
theorem predicateMiscellaneousFollowTheirRules : Obligations.PredicateMiscellaneousFollowTheirRules := by
  refine ⟨fun size pd pattern => ?initialise, fun pd => ?allFalse, fun pg pn => ?test,
    fun pd pg pn => ?first, fun size pd pg pn => ?next, fun pd => ?readFfr, fun pd pg => ?readFfrGoverned,
    ?setFfr, fun pn => ?writeFfr⟩
  case initialise =>
    and_intros
    all_goals
      refine follows_of_encode (fun _ => rfl) ?_ (or_three_fields ..)
      rw [requireSize_eq, requireInterval_eq]
  case allFalse | readFfr | setFfr | writeFfr => exact follows_of_encode (fun _ => rfl) rfl rfl
  case test => exact follows_of_encode (fun _ => rfl) (styleChecks_eq Style.plain pg) rfl
  case first => exact follows_of_encode (fun _ => rfl) (styleSameChecks_eq Style.plain pg pd pn) rfl
  case next =>
    refine follows_of_encode (fun _ => rfl) ?_ rfl
    rw [requireSize_eq, requireStyle_singleton, requireSame_eq]
  case readFfrGoverned =>
    have hlines := styleChecks_eq Style.zeroing pg
    and_intros
    all_goals exact follows_of_encode (fun _ => rfl) hlines (BitVec.or_assoc ..)

end Sys2Proof.Machine
end

section
/-! The contiguous loads and stores follow their rules (R319 to R340). -/

namespace Sys2Proof.Machine

/-- The lines of a size, a governing predicate, its style and an immediate in `[lo, hi]`, whichever the rule
names. -/
theorem governedImmediateChecks_eq (legal : List ReqInt) (st : BitVec 2) (lo hi : Int) (size : ReqInt)
    (pg : GovPred) (imm : ReqInt) :
    [requireSize legal size, requireLowPredicate pg, requireStyle [st] pg, requireInterval lo hi imm] =
    [⟨decide (size ∈ legal), .elementSize, size⟩,
      ⟨decide (pg.idx ≤ 7), .operandRange, pg.idx.setWidth 32⟩,
      ⟨decide (pg.style = st), .operandRange, pg.style.setWidth 32⟩,
      ⟨decide (lo ≤ imm.toInt ∧ imm.toInt ≤ hi), .immediateRange, imm⟩] :=
  congrArg₂ (· ++ [·]) (governedChecks_eq legal st size pg) (requireInterval_eq lo hi imm)

/-- Settles O41: the loads want a zeroing predicate and the stores a plain one, each operation with the sizes
its rule names; the words are the encoder's as they stand. -/
theorem contiguousScalarIndexFollowTheirRules : Obligations.ContiguousScalarIndexFollowTheirRules := by
  refine ⟨?ld1b, ?ld1sw, ?ld1h, ?ld1sh, ?ld1w, ?ld1sb, ?ld1d, ?st1b, ?st1h, ?st1w, ?st1d⟩
  case ld1b | ld1sw | ld1h | ld1sh | ld1w | ld1sb | ld1d =>
    intro size zt pg rn rm
    exact follows_of_encode (fun _ => rfl) (governedChecks_eq _ Style.zeroing size pg) rfl
  case st1b | st1h | st1w | st1d =>
    intro size zt pg rn rm
    exact follows_of_encode (fun _ => rfl) (governedChecks_eq _ Style.plain size pg) rfl

/-- Settles O42: the lines of the scalar index and then that of an immediate in `[-8, 7]`; the words are the
encoder's as they stand. -/
theorem contiguousImmediateFollowTheirRules : Obligations.ContiguousImmediateFollowTheirRules := by
  refine ⟨?ld1b, ?ld1sw, ?ld1h, ?ld1sh, ?ld1w, ?ld1sb, ?ld1d, ?st1b, ?st1h, ?st1w, ?st1d⟩
  case ld1b | ld1sw | ld1h | ld1sh | ld1w | ld1sb | ld1d =>
    intro size zt pg rn imm
    exact follows_of_encode (fun _ => rfl)
      (governedImmediateChecks_eq _ Style.zeroing (-8) 7 size pg imm) rfl
  case st1b | st1h | st1w | st1d =>
    intro size zt pg rn imm
    exact follows_of_encode (fun _ => rfl)
      (governedImmediateChecks_eq _ Style.plain (-8) 7 size pg imm) rfl

end Sys2Proof.Machine
end

section
/-! The structure loads and stores follow their rules (R343 to R391). -/

namespace Sys2Proof.Machine

/-! ## The lines of a structure transfer -/

/-- Registers in sequence as the rules write them (R170): the one after the first, the two, the three. -/
theorem sequential_two_iff (a b : VReg) : sequential a [b] = true ↔ b.toNat = (a.toNat + 1) % 32 :=
  (sequential_two a b).trans (eq_add_iff a b 1)

theorem sequential_three_iff (a b c : VReg) : sequential a [b, c] = true ↔
    b.toNat = (a.toNat + 1) % 32 ∧ c.toNat = (a.toNat + 2) % 32 :=
  (sequential_three a b c).trans (and_congr (eq_add_iff a b 1) (eq_add_iff a c 2))

theorem sequential_four_iff (a b c d : VReg) : sequential a [b, c, d] = true ↔
    b.toNat = (a.toNat + 1) % 32 ∧ c.toNat = (a.toNat + 2) % 32 ∧ d.toNat = (a.toNat + 3) % 32 :=
  (sequential_four a b c d).trans
    (and_congr (eq_add_iff a b 1) (and_congr (eq_add_iff a c 2) (eq_add_iff a d 3)))

/-- The line of a register sequence, however many registers the condition of the rule names. -/
theorem requireSequence_of_iff {first : VReg} {rest : List VReg} {p : Prop} [Decidable p]
    (h : sequential first rest = true ↔ p) :
    requireSequence first rest = ⟨decide p, .aliasing, first.setWidth 32⟩ := by
  rw [requireSequence, Bool.eq_iff_iff.2 (h.trans decide_eq_true_iff.symm)]

/-- The line of an immediate in units of `n` (R72) is written in the model as in the rules. -/
theorem requireMultiple_eq (n : Int) (imm : ReqInt) :
    requireMultiple n imm = ⟨decide (imm.toInt % n = 0), .immediateRange, imm⟩ := rfl

/-- The lines of a transfer with a scalar index: those of the predicate, and that of the registers. -/
theorem structureIndexChecks_eq (st : BitVec 2) (pg : GovPred) {first : VReg} {rest : List VReg}
    {p : Prop} [Decidable p] (h : sequential first rest = true ↔ p) :
    [requireLowPredicate pg, requireStyle [st] pg, requireSequence first rest] =
    [⟨decide (pg.idx ≤ 7), .operandRange, pg.idx.setWidth 32⟩,
      ⟨decide (pg.style = st), .operandRange, pg.style.setWidth 32⟩,
      ⟨decide p, .aliasing, first.setWidth 32⟩] := by
  rw [requireLowPredicate_eq, requireStyle_singleton, requireSequence_of_iff h]

/-- The lines of a transfer with an immediate: the interval stands before the registers, the unit after. -/
theorem structureImmediateChecks_eq (st : BitVec 2) (n lo hi : Int) (pg : GovPred) (imm : ReqInt)
    {first : VReg} {rest : List VReg} {p : Prop} [Decidable p] (h : sequential first rest = true ↔ p) :
    [requireLowPredicate pg, requireStyle [st] pg, requireInterval lo hi imm,
      requireSequence first rest, requireMultiple n imm] =
    [⟨decide (pg.idx ≤ 7), .operandRange, pg.idx.setWidth 32⟩,
      ⟨decide (pg.style = st), .operandRange, pg.style.setWidth 32⟩,
      ⟨decide (lo ≤ imm.toInt ∧ imm.toInt ≤ hi), .immediateRange, imm⟩,
      ⟨decide p, .aliasing, first.setWidth 32⟩,
      ⟨decide (imm.toInt % n = 0), .immediateRange, imm⟩] := by
  rw [requireLowPredicate_eq, requireStyle_singleton, requireInterval_eq, requireSequence_of_iff h,
    requireMultiple_eq]

/-! ## The rules -/

/-- Settles O43: two, three or four registers in sequence under a zeroing predicate, and the encoder's words. -/
theorem structureLoadsScalarIndexFollowTheirRules :
    Obligations.StructureLoadsScalarIndexFollowTheirRules := by
  refine ⟨fun zt1 zt2 pg rn rm => ?two, fun zt1 zt2 zt3 pg rn rm => ?three,
    fun zt1 zt2 zt3 zt4 pg rn rm => ?four⟩
  case' two =>
    have hlines := structureIndexChecks_eq Style.zeroing pg (sequential_two_iff zt1 zt2)
  case' three =>
    have hlines := structureIndexChecks_eq Style.zeroing pg (sequential_three_iff zt1 zt2 zt3)
  case' four =>
    have hlines := structureIndexChecks_eq Style.zeroing pg (sequential_four_iff zt1 zt2 zt3 zt4)
  all_goals and_intros
  all_goals exact follows_of_encode (fun _ => rfl) hlines (or_four_fields ..)

/-- Settles O44: the lines of the scalar index with those of an immediate in units of the number of
registers, and the encoder's words. -/
theorem structureLoadsImmediateFollowTheirRules :
    Obligations.StructureLoadsImmediateFollowTheirRules := by
  refine ⟨fun zt1 zt2 pg rn imm => ?two, fun zt1 zt2 zt3 pg rn imm => ?three,
    fun zt1 zt2 zt3 zt4 pg rn imm => ?four⟩
  case' two =>
    have hlines := structureImmediateChecks_eq Style.zeroing 2 (-16) 14 pg imm
      (sequential_two_iff zt1 zt2)
  case' three =>
    have hlines := structureImmediateChecks_eq Style.zeroing 3 (-24) 21 pg imm
      (sequential_three_iff zt1 zt2 zt3)
  case' four =>
    have hlines := structureImmediateChecks_eq Style.zeroing 4 (-32) 28 pg imm
      (sequential_four_iff zt1 zt2 zt3 zt4)
  all_goals and_intros
  all_goals exact follows_of_encode (fun _ => rfl) hlines (or_four_fields ..)

/-- Settles O45: as O43 with a plain predicate in place of the zeroing one. -/
theorem structureStoresScalarIndexFollowTheirRules :
    Obligations.StructureStoresScalarIndexFollowTheirRules := by
  refine ⟨fun zt1 zt2 pg rn rm => ?two, fun zt1 zt2 zt3 pg rn rm => ?three,
    fun zt1 zt2 zt3 zt4 pg rn rm => ?four⟩
  case' two =>
    have hlines := structureIndexChecks_eq Style.plain pg (sequential_two_iff zt1 zt2)
  case' three =>
    have hlines := structureIndexChecks_eq Style.plain pg (sequential_three_iff zt1 zt2 zt3)
  case' four =>
    have hlines := structureIndexChecks_eq Style.plain pg (sequential_four_iff zt1 zt2 zt3 zt4)
  all_goals and_intros
  all_goals exact follows_of_encode (fun _ => rfl) hlines (or_four_fields ..)

/-- Settles O46: as O44 with a plain predicate in place of the zeroing one. -/
theorem structureStoresImmediateFollowTheirRules :
    Obligations.StructureStoresImmediateFollowTheirRules := by
  refine ⟨fun zt1 zt2 pg rn imm => ?two, fun zt1 zt2 zt3 pg rn imm => ?three,
    fun zt1 zt2 zt3 zt4 pg rn imm => ?four⟩
  case' two =>
    have hlines := structureImmediateChecks_eq Style.plain 2 (-16) 14 pg imm
      (sequential_two_iff zt1 zt2)
  case' three =>
    have hlines := structureImmediateChecks_eq Style.plain 3 (-24) 21 pg imm
      (sequential_three_iff zt1 zt2 zt3)
  case' four =>
    have hlines := structureImmediateChecks_eq Style.plain 4 (-32) 28 pg imm
      (sequential_four_iff zt1 zt2 zt3 zt4)
  all_goals and_intros
  all_goals exact follows_of_encode (fun _ => rfl) hlines (or_four_fields ..)

end Sys2Proof.Machine
end

section
/-! The shifts, the widening and the narrowing operations follow their rules (R394 to R465). -/

namespace Sys2Proof.Machine

/-! ## The lines of a shift -/

/-- The line of a right shift (R66) is written in the model as in the rules. -/
theorem requireRightShift_eq (width : Int) (shift : ReqInt) :
    requireRightShift width shift =
      ⟨decide (0 < shift.toInt ∧ shift.toInt ≤ width), .immediateRange, shift⟩ := rfl

/-- The line of a left shift (R66) is written in the model as in the rules. -/
theorem requireLeftShift_eq (width : Int) (shift : ReqInt) :
    requireLeftShift width shift =
      ⟨decide (0 ≤ shift.toInt ∧ shift.toInt < width), .immediateRange, shift⟩ := rfl

/-- The lines of a size and a right shift within a width, whichever the rule names. -/
theorem rightShiftChecks_eq (legal : List ReqInt) (width : Int) (size shift : ReqInt) :
    [requireSize legal size, requireRightShift width shift] =
    [⟨decide (size ∈ legal), .elementSize, size⟩,
      ⟨decide (0 < shift.toInt ∧ shift.toInt ≤ width), .immediateRange, shift⟩] := by
  rw [requireSize_eq, requireRightShift_eq]

/-- The lines of a size and a left shift within a width, whichever the rule names. -/
theorem leftShiftChecks_eq (legal : List ReqInt) (width : Int) (size shift : ReqInt) :
    [requireSize legal size, requireLeftShift width shift] =
    [⟨decide (size ∈ legal), .elementSize, size⟩,
      ⟨decide (0 ≤ shift.toInt ∧ shift.toInt < width), .immediateRange, shift⟩] := by
  rw [requireSize_eq, requireLeftShift_eq]

/-- The lines of the predicated right shifts by immediate: those of the predicated operations and the
shift's. -/
theorem predicatedRightShiftChecks_eq (size : ReqInt) (zd : VReg) (pg : GovPred) (zn : VReg)
    (shift : ReqInt) :
    [requireSize [8, 16, 32, 64] size, requireLowPredicate pg, requireStyle [Style.merging] pg,
      requireSame zd zn, requireRightShift size.toInt shift] =
    [⟨decide (size ∈ [(8 : ReqInt), 16, 32, 64]), .elementSize, size⟩,
      ⟨decide (pg.idx ≤ 7), .operandRange, pg.idx.setWidth 32⟩,
      ⟨decide (pg.style = Style.merging), .operandRange, pg.style.setWidth 32⟩,
      ⟨decide (zd = zn), .aliasing, zd.setWidth 32⟩,
      ⟨decide (0 < shift.toInt ∧ shift.toInt ≤ size.toInt), .immediateRange, shift⟩] :=
  congrArg₂ (· ++ [·]) (predicatedChecks_eq size zd pg zn) (requireRightShift_eq size.toInt shift)

/-- The lines of the predicated left shifts by immediate. -/
theorem predicatedLeftShiftChecks_eq (size : ReqInt) (zd : VReg) (pg : GovPred) (zn : VReg)
    (shift : ReqInt) :
    [requireSize [8, 16, 32, 64] size, requireLowPredicate pg, requireStyle [Style.merging] pg,
      requireSame zd zn, requireLeftShift size.toInt shift] =
    [⟨decide (size ∈ [(8 : ReqInt), 16, 32, 64]), .elementSize, size⟩,
      ⟨decide (pg.idx ≤ 7), .operandRange, pg.idx.setWidth 32⟩,
      ⟨decide (pg.style = Style.merging), .operandRange, pg.style.setWidth 32⟩,
      ⟨decide (zd = zn), .aliasing, zd.setWidth 32⟩,
      ⟨decide (0 ≤ shift.toInt ∧ shift.toInt < size.toInt), .immediateRange, shift⟩] :=
  congrArg₂ (· ++ [·]) (predicatedChecks_eq size zd pg zn) (requireLeftShift_eq size.toInt shift)

/-- The lines of a size, a governing predicate, its style and a destructive relation, whichever sizes and
style the rule names. -/
theorem destructiveChecks_eq (legal : List ReqInt) (st : BitVec 2) (size : ReqInt) (zd : VReg)
    (pg : GovPred) (zn : VReg) :
    [requireSize legal size, requireLowPredicate pg, requireStyle [st] pg, requireSame zd zn] =
    [⟨decide (size ∈ legal), .elementSize, size⟩,
      ⟨decide (pg.idx ≤ 7), .operandRange, pg.idx.setWidth 32⟩,
      ⟨decide (pg.style = st), .operandRange, pg.style.setWidth 32⟩,
      ⟨decide (zd = zn), .aliasing, zd.setWidth 32⟩] :=
  congrArg₂ (· ++ [·]) (governedChecks_eq legal st size pg) (requireSame_eq zd zn)

/-- The one line of the unpredicated operations: their size. -/
theorem sizeCheck_eq (legal : List ReqInt) (size : ReqInt) :
    [requireSize legal size] = [⟨decide (size ∈ legal), .elementSize, size⟩] := by
  rw [requireSize_eq]

/-! ## The shifts -/

/-- Settles O47: to the right or to the left as the name says, with the triple of that direction; an operation
that stands alone has its word as the encoder writes it, two together have their fields ORed first. -/
theorem shiftByImmediateFollowTheirRules : Obligations.ShiftByImmediateFollowTheirRules := by
  refine ⟨fun size zd pg zn shift => ?rightPair, fun size zd pg zn shift => ?left,
    fun size zd pg zn shift => ?right, fun size zd pg zn shift => ?leftPair,
    fun size zd pg zn shift => ?roundingPair, fun size zd pg zn shift => ?leftUnsigned,
    fun size zd zn shift => ?rightUnpredicated, fun size zd zn shift => ?leftUnpredicated⟩
  case rightPair | roundingPair =>
    have hlines := predicatedRightShiftChecks_eq size zd pg zn shift
    and_intros
    all_goals exact follows_of_encode (fun _ => rfl) hlines (or_five_fields ..)
  case right =>
    exact follows_of_encode (fun _ => rfl) (predicatedRightShiftChecks_eq size zd pg zn shift) rfl
  case leftPair =>
    have hlines := predicatedLeftShiftChecks_eq size zd pg zn shift
    and_intros
    all_goals exact follows_of_encode (fun _ => rfl) hlines (or_five_fields ..)
  case left | leftUnsigned =>
    exact follows_of_encode (fun _ => rfl) (predicatedLeftShiftChecks_eq size zd pg zn shift) rfl
  case rightUnpredicated =>
    have hlines := rightShiftChecks_eq [8, 16, 32, 64] size.toInt size shift
    and_intros
    all_goals exact follows_of_encode (fun _ => rfl) hlines (or_five_fields ..)
  case leftUnpredicated =>
    exact follows_of_encode (fun _ => rfl) (leftShiftChecks_eq [8, 16, 32, 64] size.toInt size shift) rfl

/-- Settles O48: six operations with the lines of the predicated operations and the encoder's words. -/
theorem shiftByVectorFollowTheirRules : Obligations.ShiftByVectorFollowTheirRules := by
  intro size zd pg zn zm
  have hlines := predicatedChecks_eq size zd pg zn
  and_intros
  all_goals exact follows_of_encode (fun _ => rfl) hlines (or_four_fields ..)

/-- Settles O49: the sizes below the wide element's, with a merging destructive predicate or alone; the words
are the encoder's. -/
theorem shiftByWideElementsFollowTheirRules : Obligations.ShiftByWideElementsFollowTheirRules := by
  refine ⟨fun size zd pg zn zm => ?predicated, fun size zd zn zm => ?unpredicated⟩
  case predicated =>
    have hlines := destructiveChecks_eq [8, 16, 32] Style.merging size zd pg zn
    and_intros
    all_goals exact follows_of_encode (fun _ => rfl) hlines (or_four_fields ..)
  case unpredicated =>
    have hlines := sizeCheck_eq [8, 16, 32] size
    and_intros
    all_goals exact follows_of_encode (fun _ => rfl) hlines (or_four_fields ..)

/-! ## Widening and narrowing -/

/-- Settles O50: twelve operations with the one line of a wide size, and the encoder's words. -/
theorem wideningFollowTheirRules : Obligations.WideningFollowTheirRules := by
  intro size zd zn zm
  have hlines := sizeCheck_eq [16, 32, 64] size
  and_intros
  all_goals exact follows_of_encode (fun _ => rfl) hlines (or_four_fields ..)

/-- Settles O51: the long shifts go to the left within half the size; the high halves have the one line of a
narrow size, whose code they place with one added (R419). -/
theorem shiftLeftLongAndNarrowHighFollowTheirRules :
    Obligations.ShiftLeftLongAndNarrowHighFollowTheirRules := by
  refine ⟨fun size zd zn shift => ?long, fun size zd zn zm => ?narrowHigh⟩
  case long =>
    have hlines := leftShiftChecks_eq [16, 32, 64] (size.toInt / 2) size shift
    and_intros
    all_goals exact follows_of_encode (fun _ => rfl) hlines (or_five_fields ..)
  case narrowHigh =>
    have hlines := sizeCheck_eq [8, 16, 32] size
    and_intros
    all_goals exact follows_of_encode (fun _ => rfl) hlines (or_four_fields ..)

/-- Settles O52: eight operations with the lines of a right shift of a narrow size, and the encoder's words. -/
theorem shiftRightNarrowFollowTheirRules : Obligations.ShiftRightNarrowFollowTheirRules := by
  intro size zd zn shift
  have hlines := rightShiftChecks_eq [8, 16, 32] size.toInt size shift
  and_intros
  all_goals exact follows_of_encode (fun _ => rfl) hlines (or_five_fields ..)

/-- Settles O53: the other eight, with the same lines. -/
theorem shiftRightNarrowRestFollowTheirRules : Obligations.ShiftRightNarrowRestFollowTheirRules := by
  intro size zd zn shift
  have hlines := rightShiftChecks_eq [8, 16, 32] size.toInt size shift
  and_intros
  all_goals exact follows_of_encode (fun _ => rfl) hlines (or_five_fields ..)

/-- Settles O54: the accumulating shifts and the first insert go to the right, the second insert to the left;
the words are the encoder's. -/
theorem shiftAccumulateAndInsertFollowTheirRules :
    Obligations.ShiftAccumulateAndInsertFollowTheirRules := by
  refine ⟨fun size zda zn shift => ?accumulate, fun size zd zn shift => ?insertRight,
    fun size zd zn shift => ?insertLeft⟩
  case accumulate =>
    have hlines := rightShiftChecks_eq [8, 16, 32, 64] size.toInt size shift
    and_intros
    all_goals exact follows_of_encode (fun _ => rfl) hlines (or_five_fields ..)
  case insertRight =>
    exact follows_of_encode (fun _ => rfl) (rightShiftChecks_eq [8, 16, 32, 64] size.toInt size shift) rfl
  case insertLeft =>
    exact follows_of_encode (fun _ => rfl) (leftShiftChecks_eq [8, 16, 32, 64] size.toInt size shift) rfl

end Sys2Proof.Machine
end

section
/-! The floating-point operations, the index generation, the stack frame operations and the move prefixes
follow their rules (R468 to R507). -/

namespace Sys2Proof.Machine

/-! ## Floating point -/

/-- Settles O55: six operations with the one line of a floating-point size, and the encoder's words. -/
theorem floatUnpredicatedFollowTheirRules : Obligations.FloatUnpredicatedFollowTheirRules := by
  intro size zd zn zm
  have hlines := sizeCheck_eq [16, 32, 64] size
  and_intros
  all_goals exact follows_of_encode (fun _ => rfl) hlines (or_four_fields ..)

/-- Settles O56: seven operations with the lines of a merging destructive predicate at a floating-point size,
and the encoder's words. -/
theorem floatPredicatedFollowTheirRules : Obligations.FloatPredicatedFollowTheirRules := by
  intro size zd pg zn zm
  have hlines := destructiveChecks_eq [16, 32, 64] Style.merging size zd pg zn
  and_intros
  all_goals exact follows_of_encode (fun _ => rfl) hlines (or_four_fields ..)

/-- Settles O57: the other six, with the same lines. -/
theorem floatPredicatedRestFollowTheirRules : Obligations.FloatPredicatedRestFollowTheirRules := by
  intro size zd pg zn zm
  have hlines := destructiveChecks_eq [16, 32, 64] Style.merging size zd pg zn
  and_intros
  all_goals exact follows_of_encode (fun _ => rfl) hlines (or_four_fields ..)

/-- The line of a conversion's two sizes (R494). -/
theorem requireDistinctSizes_eq (dsize ssize : ReqInt) :
    requireDistinctSizes dsize ssize = ⟨decide (dsize ≠ ssize), .elementSize, dsize⟩ := by
  rw [requireDistinctSizes, distinctSizes_eq]

/-- Settles O58: seven compares with the lines of a zeroing predicate; the conversion has two sizes, which
differ, and the complex operations a rotation. The words are the encoder's. -/
theorem floatCompareConvertComplexFollowTheirRules :
    Obligations.FloatCompareConvertComplexFollowTheirRules := by
  refine ⟨fun size pd pg zn zm => ?compare, fun dsize ssize zd pg zn => ?convert,
    fun size zd pg zn zm rot => ?complexAdd, fun size zda pg zn zm rot => ?complexMultiplyAdd⟩
  case compare =>
    have hlines := governedChecks_eq [16, 32, 64] Style.zeroing size pg
    and_intros
    all_goals exact follows_of_encode (fun _ => rfl) hlines (or_five_fields ..)
  all_goals refine follows_of_encode (fun _ => rfl) ?_ rfl
  case convert =>
    rw [requireSize_eq, requireSize_eq, requireLowPredicate_eq, requireStyle_singleton,
      requireDistinctSizes_eq]
  case complexAdd =>
    rw [requireSize_eq, requireLowPredicate_eq, requireStyle_singleton, requireRotation_eq,
      requireSame_eq]
  case complexMultiplyAdd =>
    rw [requireSize_eq, requireLowPredicate_eq, requireStyle_singleton, requireRotation_eq]

/-! ## Index generation, stack frame and move prefixes -/

/-- Settles O59: the lines follow the operands that each operation has, an immediate where an index generation
takes no register; the words are the encoder's. -/
theorem indexStackMiscellaneousFollowTheirRules :
    Obligations.IndexStackMiscellaneousFollowTheirRules := by
  refine ⟨fun size zd start step => ?indexImmediates, fun size zd rn step => ?indexRegisterImmediate,
    fun size zd start rm => ?indexImmediateRegister, fun size zd rn rm => ?indexRegisters,
    fun rd rn imm => ?addLength, fun rd imm => ?readLength, fun size zd zn zm => ?select,
    fun size zd zn => ?exponential, fun zd zn => ?moveUnpredicated, fun size zd pg zn => ?movePredicated⟩
  case addLength =>
    and_intros
    all_goals exact follows_of_encode (fun _ => rfl) rfl (or_three_fields ..)
  case moveUnpredicated => exact follows_of_encode (fun _ => rfl) rfl rfl
  all_goals refine follows_of_encode (fun _ => rfl) ?_ rfl
  case indexImmediates => rw [requireSize_eq, requireInterval_eq, requireInterval_eq]
  case indexRegisterImmediate | indexImmediateRegister => rw [requireSize_eq, requireInterval_eq]
  case indexRegisters | select | exponential => exact sizeCheck_eq _ size
  case readLength => rw [requireInterval_eq]
  case movePredicated => rw [requireSize_eq, requireLowPredicate_eq, requireStyle_eq]

end Sys2Proof.Machine
end

section
/-! The way in and out of the halt (R604 to R607, R630): a run stops at its first illegal request, the halted
block refuses whatever is requested, and a reset clears the latch. -/

namespace Sys2Proof.Machine

/-! ## The halted block -/

/-- While the latch is set a polymorphic request of any tag changes nothing (R606). -/
theorem execPolymorphic_of_halted {p : PolyOp} {size : ReqInt} {zt : VReg} {pg : GovPred}
    {mem : MemoryOperand} {s : State} (hs : s.halted = true) :
    execPolymorphic p size zt pg mem s = .next s := by
  have hforwarded : ∀ i, execForwarded p i s = .next s := fun i => by
    rw [execForwarded_next (exec_of_halted hs), if_pos hs]
  have hunwired : execUnwired p mem s = .next s := by rw [execUnwired_eq, if_pos hs]
  cases mem with
  | scalarScalar rn rm => exact hforwarded _
  | scalarImm rn imm => exact hforwarded _
  | scalarVector rn zm => exact hunwired
  | vectorImm zn imm => exact hunwired

/-- While the latch is set a request of any kind is refused: it leaves the port, and nothing else changes
(R606, log 8). -/
theorem step_of_halted {s : State} {q : Request} {rest : List PortEvent} (hs : s.halted = true)
    (hport : s.port = .request q :: rest) : step s = .next { s with port := rest } := by
  cases q with
  | direct i v => rw [step_direct hport, exec_of_halted (s := { s with port := rest }) hs]
  | polymorphic p size zt pg mem v =>
    rw [step_polymorphic hport, execPolymorphic_of_halted (s := { s with port := rest }) hs]
  | unadmitted code => exact step_unadmitted hport

/-- Settles O4: by induction on the requests, each of which is refused and leaves the latch set. -/
theorem haltedBlockRefusesEverySequenceOfRequests :
    Obligations.HaltedBlockRefusesEverySequenceOfRequests := by
  intro s qs rest hs hport
  induction qs generalizing s with
  | nil => rw [List.map_nil, List.nil_append] at hport; subst hport; rfl
  | cons q qs ih => exact (run_succ Sys2Proof.core _ s _ (step_of_halted hs hport)).trans (ih _ hs rfl)

/-- Settles O5: the step is `takeReset`, whose two values of `diag` are the free ones (log 5). -/
theorem resetEventClearsTheLatchAndLeavesTheSink :
    Obligations.ResetEventClearsTheLatchAndLeavesTheSink :=
  fun _ _ hport => ⟨_, _, step_reset hport⟩

/-! ## The run up to the raise and after it -/

/-- A run that reaches a state goes on from there. -/
theorem run_add (M : Host.Core) {m : Nat} (n : Nat) {s t : M.State} (h : M.run m s = .next t) :
    M.run (m + n) s = M.run n t := by
  induction m generalizing s with
  | zero =>
    obtain rfl := Host.Outcome.next.inj h
    rw [Nat.zero_add]
  | succ m ih =>
    rw [Nat.succ_add]
    cases hstep : M.step s with
    | next u =>
      rw [run_succ M m s u hstep] at h
      rw [run_succ M (m + n) s u hstep, ih h]
    | fault r => simp [Host.Core.run, hstep] at h
    | refused r => simp [Host.Core.run, hstep] at h

/-- The step of an illegal request that stands first on the port (R604). -/
theorem step_of_not_wellFormed {s : State} {i : Instr} {v : ScalarViews} {rest : List PortEvent}
    (hs : s.halted = false) (hi : i.wellFormed = false) (hport : s.port = .request (.direct i v) :: rest) :
    ∃ cause value, step s = .next (State.raise { s with port := rest } i.op cause value) := by
  rw [step_direct hport]
  exact exec_of_not_wellFormed hs hi

/-- A run from an illegal request on: the raise, and whatever else is requested leaves the port (R604, R606). -/
theorem run_of_not_wellFormed {s : State} {i : Instr} {v : ScalarViews} {later : List Request}
    (hs : s.halted = false) (hi : i.wellFormed = false)
    (hport : s.port = .request (.direct i v) :: later.map PortEvent.request) :
    ∃ cause value, Host.Core.run Sys2Proof.core (1 + later.length) s =
      .next (State.raise { s with port := [] } i.op cause value) := by
  obtain ⟨cause, value, hstep⟩ := step_of_not_wellFormed hs hi hport
  refine ⟨cause, value, ?_⟩
  rw [Nat.add_comm]
  exact (run_succ Sys2Proof.core _ s _ hstep).trans
    (haltedBlockRefusesEverySequenceOfRequests _ later [] rfl (List.append_nil _).symm)

/-- The bytes above the words appended stay, as those below them do. -/
theorem State.read_appendAll_of_outside (s : State) (ws : List Word) {a : Nat}
    (ha : a < 4 * s.wpos ∨ 4 * (s.wpos + ws.length) ≤ a) :
    (s.appendAll ws).stream.read a = s.stream.read a := by
  obtain hlt | hge := ha
  · exact s.read_appendAll_of_lt ws hlt
  · induction ws generalizing s with
    | nil => rfl
    | cons w ws ih =>
      rw [List.length_cons] at hge
      have habove : 4 * ((s.append w).wpos + ws.length) ≤ a := by rw [State.append_wpos]; omega
      exact (ih (s.append w) habove).trans (s.read_append_of_outside w (.inr (by omega)))

/-- `Append` neither reads nor writes the port. -/
theorem State.appendAll_withPort (s : State) (port : List PortEvent) (ws : List Word) :
    State.appendAll { s with port := port } ws = { s.appendAll ws with port := port } := by
  induction ws generalizing s with
  | nil => rfl
  | cons w ws ih => exact ih (s.append w)

/-- A run over legal requests, one illegal request and whatever follows it: the words of the legal ones are
appended, and the illegal one raises. -/
theorem run_to_first_illegal {s : State} {good : List (Instr × ScalarViews)} {bad : Instr}
    {v : ScalarViews} {later : List Request} (hs : s.halted = false)
    (hgood : ∀ q ∈ good, q.1.wellFormed = true) (hbad : bad.wellFormed = false)
    (hport : s.port = good.map (fun q => PortEvent.request (.direct q.1 q.2)) ++
      .request (.direct bad v) :: later.map PortEvent.request) :
    ∃ cause value, Host.Core.run Sys2Proof.core (good.length + 1 + later.length) s =
      .next (State.raise { s.appendAll (good.map fun q => s.wordOf q.1) with port := [] }
        bad.op cause value) := by
  have hwords := run_of_wellFormed hs hgood hport
  rw [State.appendAll_withPort] at hwords
  obtain ⟨cause, value, hraise⟩ :=
    run_of_not_wellFormed (s := { s.appendAll (good.map fun q => s.wordOf q.1) with
      port := .request (.direct bad v) :: later.map PortEvent.request })
      ((s.appendAll_halted _).trans hs) hbad rfl
  rw [Nat.add_assoc]
  exact ⟨cause, value, (run_add Sys2Proof.core _ hwords).trans hraise⟩

/-- Settles O22: the legal requests append their words, the illegal one raises, and the later ones leave the
port; the raise changes neither stream nor cursor. -/
theorem aRunStopsAtItsFirstIllegalRequest : Obligations.ARunStopsAtItsFirstIllegalRequest := by
  intro s good bad v later hs hgood hbad hport
  obtain ⟨cause, value, hrun⟩ := run_to_first_illegal hs hgood hbad hport
  have hlength : (good.map fun q => s.wordOf q.1).length = good.length := List.length_map ..
  refine ⟨_, cause, value, hrun, rfl, rfl, rfl, ?_, fun k hk => ?_, fun ht q hq => ?_, fun a ha => ?_⟩
  · rw [State.raise_wpos, State.appendAll_wpos, hlength]
  · have hword := s.readWord_appendAll _ (hlength.symm ▸ hk)
    rwa [List.getElem_map] at hword
  · exact State.wordOf_eq_encode ht (hgood q hq)
  · exact s.read_appendAll_of_outside _ (hlength.symm ▸ ha)

end Sys2Proof.Machine
end
